-- ==== Sys2Proof/Word.lean ====
section
/-! DEFINITION. The word types and the names of the operands (30_encoding.md R136 to R141). -/

namespace Sys2Proof

/-- One memory location, one 8-bit register (10_state.md R20, R42). -/
abbrev Byte := BitVec 8

/-- One address, one register pair, SP, PC (10_state.md R21, R27, R28, R42). -/
abbrev Word := BitVec 16

/-- The seven 8-bit registers that an `r8` operand can name (R136; F is not in the map). -/
inductive Reg8 where
  | b | c | d | e | h | l | a
  deriving DecidableEq, Repr

/-- An `r8` operand: a register, or number 6, the byte at the address in HL (R136). -/
inductive Operand8 where
  | reg (r : Reg8)
  | atHl
  deriving DecidableEq, Repr

/-- A 16-bit operand of the SP group, `rr` (R137). -/
inductive Pair where
  | bc | de | hl | sp
  deriving DecidableEq, Repr

/-- A 16-bit operand of the AF group, `qq`, used only by PUSH and POP (R138). -/
inductive StackPair where
  | bc | de | hl | af
  deriving DecidableEq, Repr

/-- A condition, `cc` (R139). -/
inductive Cond where
  | nz | z | nc | c
  deriving DecidableEq, Repr

/-- An accumulator operation, number `a` (R141). -/
inductive AluOp where
  | add | adc | sub | sbc | and | xor | or | cp
  deriving DecidableEq, Repr

/-- A rotate, shift or swap, number `o` (R141). -/
inductive RotOp where
  | rlc | rrc | rl | rr | sla | sra | swap | srl
  deriving DecidableEq, Repr

/-- The address forms of the loads and stores of A (40_load8.md R165 to R178). -/
inductive AddrMode where
  | bc
  | de
  | hlInc
  | hlDec
  | abs (nn : Word)
  | highC
  | high (n : Byte)
  deriving DecidableEq, Repr

/-- The three peripherals outside the core (00_scope.md R6). -/
inductive Device where
  | video | timer | joypad
  deriving DecidableEq, Repr

end Sys2Proof
end

