-- ==== Sys2Proof/Config.lean ====
section
/-! DEFINITION. The parameters of 00_scope.md R8, each at the value the spec fixes (log 7), and the free
values of the peripherals (93_implementation_defined.md U13, log 1, log 2). -/

namespace Sys2Proof.Config

/-- `CYCLE_QUANTUM`, Q: cycles charged per bus byte access (D1, R351). -/
def cycleQuantum : Byte := 4

/-- `HALT_IDLE_CYCLES` (D2, R354). -/
def haltIdleCycles : Byte := 4

/-- `INT_DISPATCH_CYCLES` (D3, R355). -/
def intDispatchCycles : Byte := 20

/-- The two disciplines for an unassigned opcode (R8, R254). -/
inductive IllegalPolicy where
  | logAndContinue
  | fatal
  deriving DecidableEq, Repr

/-- `ILLEGAL_OPCODE_POLICY` = continue (D4). -/
def illegalOpcodePolicy : IllegalPolicy := .logAndContinue

/-- What AND, OR, XOR do to flag N (R8). -/
inductive LogicN where
  | clear
  | keep
  deriving DecidableEq, Repr

/-- `LOGIC_N_POLICY` = clear (90_conflicts.md C3, D6). -/
def logicNPolicy : LogicN := .clear

/-- `EI_DELAY` = 0: instructions between EI and IME becoming 1; the spec describes the values 0 and 1 (D5, U8, log 25). -/
def eiDelay : Fin 2 := 0

/-- `HALT_WAKE_WITHOUT_IME` = false (90_conflicts.md C4, D7). -/
def haltWakeWithoutIme : Bool := false

/-- `OPEN_BUS`: what an unmapped address reads as (R7, R70). -/
def openBus : Byte := 0xFF

/-- `RAM_DISABLED_READ` (D8, R89). -/
def ramDisabledRead : Byte := 0xFF

/-- `RAM_ENABLE_PATTERN`: the low nibble that arms cartridge RAM (D9, R81). -/
def ramEnablePattern : BitVec 4 := 0xA

/-- `DMA_SRC_MIN` (D10, R72). -/
def dmaSrcMin : Byte := 0x80

/-- `DMA_SRC_MAX` (D10, R72). -/
def dmaSrcMax : Byte := 0xDF

/-- `DMA_LEN`: bytes copied by one DMA transfer (D10, R72). -/
def dmaLen : Nat := 0xA0

/-- `ROM_PAD`: the byte that fills a ROM image up to its rounded size (D27, R342). -/
def romPad : Byte := 0x00

/-! `RESET_*`: the reset value of every register (R45, D11, log 5). -/

def resetPc : Word := 0x0100
def resetSp : Word := 0xFFFE
def resetA : Byte := 0x01
def resetF : Byte := 0xB0
def resetB : Byte := 0x00
def resetC : Byte := 0x13
def resetD : Byte := 0x00
def resetE : Byte := 0xD8
def resetH : Byte := 0x01
def resetL : Byte := 0x4D
def resetIme : Bool := false
def resetHalted : Bool := false
def resetIf : Byte := 0x00
def resetIe : Byte := 0x00
def resetRamEnable : Bool := false
def resetBankLo : BitVec 5 := 0
def resetBankHi : BitVec 2 := 0
def resetBankMode : Bool := false

/-- `WRAM_INIT`: the bytes of WRAM that are not 0x00 at power-on, by index: none (D12, log 6). -/
def wramInit : List Host.Cell := []

/-- `HRAM_INIT`: the bytes of HRAM that are not 0x00 at power-on, by index: none (D12, log 6). -/
def hramInit : List Host.Cell := []

/-- The byte the `n`-th read of a peripheral window returns: any value (R71, U13). -/
opaque deviceByte : Nat → Byte

/-- The requests the peripherals raise in the `n`-th router update, one bit each as in IF: any value (R73, U13). -/
opaque deviceRequests : Nat → Byte

end Sys2Proof.Config
end

