-- ==== Sys2Proof/Machine/State.lean ====
section
/-! DEFINITION. The state of gbder CORE (10_state.md), the reasons a step stops, and the state after reset (R45). -/

namespace Sys2Proof.Machine

/-- One storage array, as the list of its bytes that differ from `Memory.unlisted`: index and byte,
indexes strictly rising (log 6, log 22). -/
abbrev Memory := List Host.Cell

/-- What an index with no entry reads as: WRAM and HRAM power on as 0x00 (R33, R34, D12), cartridge RAM is
zero-initialised (R36), a ROM image is padded with `ROM_PAD` = 0x00 (R342) (log 6). -/
def Memory.unlisted : Byte := 0x00

/-- A report of one step: it reaches the host's log and nothing else (60_exceptions.md R302). -/
inductive Report where
  /-- An unassigned opcode was executed: the opcode byte and the address it was fetched from. -/
  | illegalOpcode (op : Byte) (addr : Word)
  /-- STOP was executed: the address it was fetched from. -/
  | stopExecuted (addr : Word)
  deriving DecidableEq, Repr

/-- One call of the bus contract that the core makes on a peripheral (20_memory.md R61). -/
inductive DeviceEvent where
  | read (d : Device) (addr : Word)
  | write (d : Device) (addr : Word) (v : Byte)
  | update (d : Device) (cycles : Byte)
  deriving DecidableEq, Repr

/-- The state of the core: processor, router, cartridge (10_state.md, the table at its top), the outputs of the
latest step, and the two counters of the free values. -/
structure State where
  /-- The accumulator A (R20). -/
  a : Byte
  /-- F: flags Z, N, H, C in bits 7, 6, 5, 4; bits 3 to 0 read as zero (R22). -/
  f : Byte
  b : Byte
  c : Byte
  d : Byte
  e : Byte
  h : Byte
  l : Byte
  /-- The stack pointer (R27). -/
  sp : Word
  /-- The program counter (R28). -/
  pc : Word
  /-- The interrupt master enable (R29). -/
  ime : Bool
  /-- The halted state (R30). -/
  halted : Bool
  /-- The hidden bit of a machine with `EI_DELAY` = 1: an EI whose effect is still to come (U8). With `EI_DELAY` = 0,
  the spec's value, nothing sets it (R39, log 25). -/
  eiPending : Bool
  /-- IF, the interrupt "requested" register at 0xFF0F (R31). -/
  iflag : Byte
  /-- IE, the interrupt "enabled" register at 0xFFFF (R32). -/
  ienable : Byte
  /-- General-purpose RAM, indexes 0 to 0x1FFF (R33). -/
  wram : Memory
  /-- High RAM, indexes 0 to 126 (R34). -/
  hram : Memory
  /-- The cartridge program image, never written by the machine (R35, log 17). -/
  rom : Memory
  /-- `NUM_ROM_BANKS` (R8, R92). -/
  romBanks : Nat
  /-- Cartridge RAM (R36). -/
  cartRam : Memory
  /-- `RAM_SIZE` in bytes (R8, R345). -/
  ramSize : Nat
  /-- The RAM-enable latch (R37, R81). -/
  ramEnable : Bool
  /-- The low ROM-bank field (R37, R82). -/
  bankLo : BitVec 5
  /-- The high bank field (R37, R83). -/
  bankHi : BitVec 2
  /-- The banking mode (R37, R84): false is mode 0, true is mode 1. -/
  bankMode : Bool
  /-- Cycles charged so far in this step (R38). -/
  tick : Byte
  /-- What `step()` returned for the latest step (R300, log 11). -/
  cycles : Nat
  /-- The report list of the latest step, oldest first (R302, log 11). -/
  reports : List Report
  /-- What the core handed to the peripherals in the latest step, oldest first (R61, log 3). -/
  deviceEvents : List DeviceEvent
  /-- How many peripheral reads have happened: the argument of the free byte (log 1). -/
  draws : Nat
  /-- How many router updates have happened: the argument of the free requests (log 2). -/
  updates : Nat
  deriving DecidableEq, Repr

/-- The fatal stops inside a step (60_exceptions.md R303, R304): a step that raises one has no next state. -/
inductive Fault where
  /-- Raised by a bus write of `v` outside 0x80 to 0xDF to the DMA register 0xFF46 (R72, R304).
  Safe: the spec says that the run ends here. -/
  | dmaSource (v : Byte)
  /-- Raised by an unassigned opcode under `ILLEGAL_OPCODE_POLICY` = fatal only (R254, R303).
  Safe: the spec says that the run ends here. -/
  | illegalOpcode (op : Byte) (addr : Word)
  deriving DecidableEq, Repr

/-- The reasons the model gives no meaning. -/
inductive Refusal where
  /-- Raised by an arm of exec whose instruction has no meaning yet. Safe: the model stops. No arm raises it. -/
  | notModelled (mnemonic : String)
  deriving DecidableEq, Repr

/-- The cartridge as the host supplies it (00_scope.md R8): the image, its bank count, the RAM size and the
initial RAM content. -/
structure Cartridge where
  rom : Memory
  romBanks : Nat
  ramSize : Nat
  ramInit : Memory
  deriving DecidableEq, Repr

/-- No image loaded: the smallest bank count, every byte as an unlisted byte reads, no RAM (log 4). -/
def Cartridge.none : Cartridge := ⟨[], 2, 0, []⟩

/-- The state after power-on with a cartridge: the table of 10_state.md R45. -/
def State.powerOn (cart : Cartridge) : State where
  a := Config.resetA
  f := Config.resetF
  b := Config.resetB
  c := Config.resetC
  d := Config.resetD
  e := Config.resetE
  h := Config.resetH
  l := Config.resetL
  sp := Config.resetSp
  pc := Config.resetPc
  ime := Config.resetIme
  halted := Config.resetHalted
  eiPending := false
  iflag := Config.resetIf
  ienable := Config.resetIe
  wram := Config.wramInit
  hram := Config.hramInit
  rom := cart.rom
  romBanks := cart.romBanks
  cartRam := cart.ramInit
  ramSize := cart.ramSize
  ramEnable := Config.resetRamEnable
  bankLo := Config.resetBankLo
  bankHi := Config.resetBankHi
  bankMode := Config.resetBankMode
  tick := 0
  cycles := 0
  reports := []
  deviceEvents := []
  draws := 0
  updates := 0

/-- The state after reset, before a cartridge image is loaded (R45, R340, log 4, log 10). -/
def State.reset : State := State.powerOn Cartridge.none

end Sys2Proof.Machine
end

