-- ==== Sys2Proof/Machine/Memory.lean ====
section
/-! DEFINITION. The canonical storage array: reading, writing and the form it keeps (log 22). -/

namespace Sys2Proof.Machine

/-- The byte at an index. -/
def Memory.read : Memory → Nat → Byte
  | [], _ => Memory.unlisted
  | (k, v) :: m, i => if i = k then v else Memory.read m i

/-- One more byte in front of a list whose indexes are all larger; a byte equal to `unlisted` takes no entry. -/
def Memory.cons (i : Nat) (v : Byte) (m : Memory) : Memory :=
  if v = Memory.unlisted then m else (i, v) :: m

/-- Put a byte at an index, keeping the canonical form. -/
def Memory.write : Memory → Nat → Byte → Memory
  | [], i, v => Memory.cons i v []
  | (k, w) :: m, i, v =>
    if i < k then Memory.cons i v ((k, w) :: m)
    else if i = k then Memory.cons i v m
    else (k, w) :: Memory.write m i v

/-- Every index of the list lies in `lo ≤ i < hi`, the indexes rise strictly, no entry equals `unlisted`. -/
def Memory.wfFrom : Memory → Nat → Nat → Bool
  | [], _, _ => true
  | (k, v) :: m, lo, hi => decide (lo ≤ k) && decide (k < hi) && decide (v ≠ Memory.unlisted) && Memory.wfFrom m (k + 1) hi

/-- The canonical form of an array of `size` bytes. -/
def Memory.wf (m : Memory) (size : Nat) : Bool := Memory.wfFrom m 0 size

/-- The array that holds `bytes` from index `start` on. -/
def Memory.ofBytes : Nat → List Byte → Memory
  | _, [] => []
  | start, v :: vs => Memory.cons start v (Memory.ofBytes (start + 1) vs)

end Sys2Proof.Machine
end

