-- ==== Sys2Proof/Syntax.lean ====
section
/-! DEFINITION. The instructions: one constructor for each row of spec/opcode_table.json
(30_encoding.md R143, R144, R151). n and e are 8-bit immediates, nn a 16-bit immediate (R133 to R135). -/

namespace Sys2Proof

/-- An instruction with its immediate operands. The rows with an operand stand first (Lean's runtime numbers only
the first constructors that carry data). `prefixCb` is the row PREFIX CB: the prefix byte with a second byte not yet resolved (R142, R255, log 9). -/
inductive Instr where
  -- rows with an operand
  | ldBcNn (nn : Word)
  | ldBN (n : Byte)
  | ldIndNnSp (nn : Word)
  | ldCN (n : Byte)
  | ldDeNn (nn : Word)
  | ldDN (n : Byte)
  | jrE (e : Byte)
  | ldEN (n : Byte)
  | jrNzE (e : Byte)
  | ldHlNn (nn : Word)
  | ldHN (n : Byte)
  | jrZE (e : Byte)
  | ldLN (n : Byte)
  | jrNcE (e : Byte)
  | ldSpNn (nn : Word)
  | ldIndHlN (n : Byte)
  | jrCE (e : Byte)
  | ldAN (n : Byte)
  | jpNzNn (nn : Word)
  | jpNn (nn : Word)
  | callNzNn (nn : Word)
  | addAN (n : Byte)
  | jpZNn (nn : Word)
  | prefixCb (op2 : Byte)
  | callZNn (nn : Word)
  | callNn (nn : Word)
  | adcAN (n : Byte)
  | jpNcNn (nn : Word)
  | callNcNn (nn : Word)
  | subN (n : Byte)
  | jpCNn (nn : Word)
  | callCNn (nn : Word)
  | sbcAN (n : Byte)
  | ldhIndNA (n : Byte)
  | andN (n : Byte)
  | addSpE (e : Byte)
  | ldIndNnA (nn : Word)
  | xorN (n : Byte)
  | ldhAIndN (n : Byte)
  | orN (n : Byte)
  | ldHlSpE (e : Byte)
  | ldAIndNn (nn : Word)
  | cpN (n : Byte)
  -- primary rows without an operand
  | nop
  | ldIndBcA
  | incBc
  | incB
  | decB
  | rlca
  | addHlBc
  | ldAIndBc
  | decBc
  | incC
  | decC
  | rrca
  | stop
  | ldIndDeA
  | incDe
  | incD
  | decD
  | rla
  | addHlDe
  | ldAIndDe
  | decDe
  | incE
  | decE
  | rra
  | ldIndHliA
  | incHl
  | incH
  | decH
  | daa
  | addHlHl
  | ldAIndHli
  | decHl
  | incL
  | decL
  | cpl
  | ldIndHldA
  | incSp
  | incIndHl
  | decIndHl
  | scf
  | addHlSp
  | ldAIndHld
  | decSp
  | incA
  | decA
  | ccf
  | ldBB
  | ldBC
  | ldBD
  | ldBE
  | ldBH
  | ldBL
  | ldBIndHl
  | ldBA
  | ldCB
  | ldCC
  | ldCD
  | ldCE
  | ldCH
  | ldCL
  | ldCIndHl
  | ldCA
  | ldDB
  | ldDC
  | ldDD
  | ldDE
  | ldDH
  | ldDL
  | ldDIndHl
  | ldDA
  | ldEB
  | ldEC
  | ldED
  | ldEE
  | ldEH
  | ldEL
  | ldEIndHl
  | ldEA
  | ldHB
  | ldHC
  | ldHD
  | ldHE
  | ldHH
  | ldHL
  | ldHIndHl
  | ldHA
  | ldLB
  | ldLC
  | ldLD
  | ldLE
  | ldLH
  | ldLL
  | ldLIndHl
  | ldLA
  | ldIndHlB
  | ldIndHlC
  | ldIndHlD
  | ldIndHlE
  | ldIndHlH
  | ldIndHlL
  | halt
  | ldIndHlA
  | ldAB
  | ldAC
  | ldAD
  | ldAE
  | ldAH
  | ldAL
  | ldAIndHl
  | ldAA
  | addAB
  | addAC
  | addAD
  | addAE
  | addAH
  | addAL
  | addAIndHl
  | addAA
  | adcAB
  | adcAC
  | adcAD
  | adcAE
  | adcAH
  | adcAL
  | adcAIndHl
  | adcAA
  | subB
  | subC
  | subD
  | subE
  | subH
  | subL
  | subIndHl
  | subA
  | sbcAB
  | sbcAC
  | sbcAD
  | sbcAE
  | sbcAH
  | sbcAL
  | sbcAIndHl
  | sbcAA
  | andB
  | andC
  | andD
  | andE
  | andH
  | andL
  | andIndHl
  | andA
  | xorB
  | xorC
  | xorD
  | xorE
  | xorH
  | xorL
  | xorIndHl
  | xorA
  | orB
  | orC
  | orD
  | orE
  | orH
  | orL
  | orIndHl
  | orA
  | cpB
  | cpC
  | cpD
  | cpE
  | cpH
  | cpL
  | cpIndHl
  | cpA
  | retNz
  | popBc
  | pushBc
  | rst00
  | retZ
  | ret
  | rst08
  | retNc
  | popDe
  | illegalD3
  | pushDe
  | rst10
  | retC
  | reti
  | illegalDB
  | illegalDD
  | rst18
  | popHl
  | ldhIndCA
  | illegalE3
  | illegalE4
  | pushHl
  | rst20
  | jpHl
  | illegalEB
  | illegalEC
  | illegalED
  | rst28
  | popAf
  | ldhAIndC
  | di
  | illegalF4
  | pushAf
  | rst30
  | ldSpHl
  | ei
  | illegalFC
  | illegalFD
  | rst38
  -- extended rows, behind the prefix 0xCB
  | rlcB
  | rlcC
  | rlcD
  | rlcE
  | rlcH
  | rlcL
  | rlcIndHl
  | rlcA
  | rrcB
  | rrcC
  | rrcD
  | rrcE
  | rrcH
  | rrcL
  | rrcIndHl
  | rrcA
  | rlB
  | rlC
  | rlD
  | rlE
  | rlH
  | rlL
  | rlIndHl
  | rlA
  | rrB
  | rrC
  | rrD
  | rrE
  | rrH
  | rrL
  | rrIndHl
  | rrA
  | slaB
  | slaC
  | slaD
  | slaE
  | slaH
  | slaL
  | slaIndHl
  | slaA
  | sraB
  | sraC
  | sraD
  | sraE
  | sraH
  | sraL
  | sraIndHl
  | sraA
  | swapB
  | swapC
  | swapD
  | swapE
  | swapH
  | swapL
  | swapIndHl
  | swapA
  | srlB
  | srlC
  | srlD
  | srlE
  | srlH
  | srlL
  | srlIndHl
  | srlA
  | bit0B
  | bit0C
  | bit0D
  | bit0E
  | bit0H
  | bit0L
  | bit0IndHl
  | bit0A
  | bit1B
  | bit1C
  | bit1D
  | bit1E
  | bit1H
  | bit1L
  | bit1IndHl
  | bit1A
  | bit2B
  | bit2C
  | bit2D
  | bit2E
  | bit2H
  | bit2L
  | bit2IndHl
  | bit2A
  | bit3B
  | bit3C
  | bit3D
  | bit3E
  | bit3H
  | bit3L
  | bit3IndHl
  | bit3A
  | bit4B
  | bit4C
  | bit4D
  | bit4E
  | bit4H
  | bit4L
  | bit4IndHl
  | bit4A
  | bit5B
  | bit5C
  | bit5D
  | bit5E
  | bit5H
  | bit5L
  | bit5IndHl
  | bit5A
  | bit6B
  | bit6C
  | bit6D
  | bit6E
  | bit6H
  | bit6L
  | bit6IndHl
  | bit6A
  | bit7B
  | bit7C
  | bit7D
  | bit7E
  | bit7H
  | bit7L
  | bit7IndHl
  | bit7A
  | res0B
  | res0C
  | res0D
  | res0E
  | res0H
  | res0L
  | res0IndHl
  | res0A
  | res1B
  | res1C
  | res1D
  | res1E
  | res1H
  | res1L
  | res1IndHl
  | res1A
  | res2B
  | res2C
  | res2D
  | res2E
  | res2H
  | res2L
  | res2IndHl
  | res2A
  | res3B
  | res3C
  | res3D
  | res3E
  | res3H
  | res3L
  | res3IndHl
  | res3A
  | res4B
  | res4C
  | res4D
  | res4E
  | res4H
  | res4L
  | res4IndHl
  | res4A
  | res5B
  | res5C
  | res5D
  | res5E
  | res5H
  | res5L
  | res5IndHl
  | res5A
  | res6B
  | res6C
  | res6D
  | res6E
  | res6H
  | res6L
  | res6IndHl
  | res6A
  | res7B
  | res7C
  | res7D
  | res7E
  | res7H
  | res7L
  | res7IndHl
  | res7A
  | set0B
  | set0C
  | set0D
  | set0E
  | set0H
  | set0L
  | set0IndHl
  | set0A
  | set1B
  | set1C
  | set1D
  | set1E
  | set1H
  | set1L
  | set1IndHl
  | set1A
  | set2B
  | set2C
  | set2D
  | set2E
  | set2H
  | set2L
  | set2IndHl
  | set2A
  | set3B
  | set3C
  | set3D
  | set3E
  | set3H
  | set3L
  | set3IndHl
  | set3A
  | set4B
  | set4C
  | set4D
  | set4E
  | set4H
  | set4L
  | set4IndHl
  | set4A
  | set5B
  | set5C
  | set5D
  | set5E
  | set5H
  | set5L
  | set5IndHl
  | set5A
  | set6B
  | set6C
  | set6D
  | set6E
  | set6H
  | set6L
  | set6IndHl
  | set6A
  | set7B
  | set7C
  | set7D
  | set7E
  | set7H
  | set7L
  | set7IndHl
  | set7A
  deriving DecidableEq, Repr

end Sys2Proof
end

