-- ==== Sys2Proof/WellFormed.lean ====
section
/-! DEFINITION. Which terms of Instr are instructions of the machine. -/

namespace Sys2Proof

/-- Every operand has the exact width of its field (30_encoding.md R148), so every operand value is legal. The one term
that is no instruction of its own is the row PREFIX CB: "It only says look in the extended rows" (R151), and the pair of
prefix and second byte is one of the 256 extended instructions (R142, R255, log 9). -/
def Instr.wellFormed : Instr → Bool
  | .prefixCb _ => false
  | _ => true

end Sys2Proof
end

