-- ==== Sys2Proof/Decode.lean ====
section
/-! DEFINITION. Decoding, total on any bytes, and the encoder (30_encoding.md R130 to R151). The opcode maps R143 and
R144 are tables of 16 rows of 16 entries, row = high nibble, column = low nibble of the opcode byte. -/

namespace Sys2Proof

/-- `concat(hi, lo)` (00_scope.md R9). -/
def joinBytes (hi lo : Byte) : Word := hi ++ lo

/-- `v[15:8]` (00_scope.md R9). -/
def hiByte (v : Word) : Byte := v.extractLsb' 8 8

/-- `v[7:0]` (00_scope.md R9). -/
def loByte (v : Word) : Byte := v.extractLsb' 0 8

/-- What an opcode byte stands for, given the two bytes that follow it (each entry uses those it asks for). -/
abbrev Entry := Byte → Byte → Instr

/-- R144, extended bytes 0x00 to 0x0F. -/
def extendedRow0 : List Instr :=
  [.rlcB, .rlcC, .rlcD, .rlcE,
   .rlcH, .rlcL, .rlcIndHl, .rlcA,
   .rrcB, .rrcC, .rrcD, .rrcE,
   .rrcH, .rrcL, .rrcIndHl, .rrcA]

/-- R144, extended bytes 0x10 to 0x1F. -/
def extendedRow1 : List Instr :=
  [.rlB, .rlC, .rlD, .rlE,
   .rlH, .rlL, .rlIndHl, .rlA,
   .rrB, .rrC, .rrD, .rrE,
   .rrH, .rrL, .rrIndHl, .rrA]

/-- R144, extended bytes 0x20 to 0x2F. -/
def extendedRow2 : List Instr :=
  [.slaB, .slaC, .slaD, .slaE,
   .slaH, .slaL, .slaIndHl, .slaA,
   .sraB, .sraC, .sraD, .sraE,
   .sraH, .sraL, .sraIndHl, .sraA]

/-- R144, extended bytes 0x30 to 0x3F. -/
def extendedRow3 : List Instr :=
  [.swapB, .swapC, .swapD, .swapE,
   .swapH, .swapL, .swapIndHl, .swapA,
   .srlB, .srlC, .srlD, .srlE,
   .srlH, .srlL, .srlIndHl, .srlA]

/-- R144, extended bytes 0x40 to 0x4F. -/
def extendedRow4 : List Instr :=
  [.bit0B, .bit0C, .bit0D, .bit0E,
   .bit0H, .bit0L, .bit0IndHl, .bit0A,
   .bit1B, .bit1C, .bit1D, .bit1E,
   .bit1H, .bit1L, .bit1IndHl, .bit1A]

/-- R144, extended bytes 0x50 to 0x5F. -/
def extendedRow5 : List Instr :=
  [.bit2B, .bit2C, .bit2D, .bit2E,
   .bit2H, .bit2L, .bit2IndHl, .bit2A,
   .bit3B, .bit3C, .bit3D, .bit3E,
   .bit3H, .bit3L, .bit3IndHl, .bit3A]

/-- R144, extended bytes 0x60 to 0x6F. -/
def extendedRow6 : List Instr :=
  [.bit4B, .bit4C, .bit4D, .bit4E,
   .bit4H, .bit4L, .bit4IndHl, .bit4A,
   .bit5B, .bit5C, .bit5D, .bit5E,
   .bit5H, .bit5L, .bit5IndHl, .bit5A]

/-- R144, extended bytes 0x70 to 0x7F. -/
def extendedRow7 : List Instr :=
  [.bit6B, .bit6C, .bit6D, .bit6E,
   .bit6H, .bit6L, .bit6IndHl, .bit6A,
   .bit7B, .bit7C, .bit7D, .bit7E,
   .bit7H, .bit7L, .bit7IndHl, .bit7A]

/-- R144, extended bytes 0x80 to 0x8F. -/
def extendedRow8 : List Instr :=
  [.res0B, .res0C, .res0D, .res0E,
   .res0H, .res0L, .res0IndHl, .res0A,
   .res1B, .res1C, .res1D, .res1E,
   .res1H, .res1L, .res1IndHl, .res1A]

/-- R144, extended bytes 0x90 to 0x9F. -/
def extendedRow9 : List Instr :=
  [.res2B, .res2C, .res2D, .res2E,
   .res2H, .res2L, .res2IndHl, .res2A,
   .res3B, .res3C, .res3D, .res3E,
   .res3H, .res3L, .res3IndHl, .res3A]

/-- R144, extended bytes 0xA0 to 0xAF. -/
def extendedRowA : List Instr :=
  [.res4B, .res4C, .res4D, .res4E,
   .res4H, .res4L, .res4IndHl, .res4A,
   .res5B, .res5C, .res5D, .res5E,
   .res5H, .res5L, .res5IndHl, .res5A]

/-- R144, extended bytes 0xB0 to 0xBF. -/
def extendedRowB : List Instr :=
  [.res6B, .res6C, .res6D, .res6E,
   .res6H, .res6L, .res6IndHl, .res6A,
   .res7B, .res7C, .res7D, .res7E,
   .res7H, .res7L, .res7IndHl, .res7A]

/-- R144, extended bytes 0xC0 to 0xCF. -/
def extendedRowC : List Instr :=
  [.set0B, .set0C, .set0D, .set0E,
   .set0H, .set0L, .set0IndHl, .set0A,
   .set1B, .set1C, .set1D, .set1E,
   .set1H, .set1L, .set1IndHl, .set1A]

/-- R144, extended bytes 0xD0 to 0xDF. -/
def extendedRowD : List Instr :=
  [.set2B, .set2C, .set2D, .set2E,
   .set2H, .set2L, .set2IndHl, .set2A,
   .set3B, .set3C, .set3D, .set3E,
   .set3H, .set3L, .set3IndHl, .set3A]

/-- R144, extended bytes 0xE0 to 0xEF. -/
def extendedRowE : List Instr :=
  [.set4B, .set4C, .set4D, .set4E,
   .set4H, .set4L, .set4IndHl, .set4A,
   .set5B, .set5C, .set5D, .set5E,
   .set5H, .set5L, .set5IndHl, .set5A]

/-- R144, extended bytes 0xF0 to 0xFF. -/
def extendedRowF : List Instr :=
  [.set6B, .set6C, .set6D, .set6E,
   .set6H, .set6L, .set6IndHl, .set6A,
   .set7B, .set7C, .set7D, .set7E,
   .set7H, .set7L, .set7IndHl, .set7A]

/-- The extended opcode space by the high nibble of its byte; every value is assigned (R144). -/
def extendedRow (hi : Nat) : List Instr :=
  match hi with
  | 0 => extendedRow0
  | 1 => extendedRow1
  | 2 => extendedRow2
  | 3 => extendedRow3
  | 4 => extendedRow4
  | 5 => extendedRow5
  | 6 => extendedRow6
  | 7 => extendedRow7
  | 8 => extendedRow8
  | 9 => extendedRow9
  | 10 => extendedRowA
  | 11 => extendedRowB
  | 12 => extendedRowC
  | 13 => extendedRowD
  | 14 => extendedRowE
  | _ => extendedRowF

theorem extendedRow_length (hi : Nat) : (extendedRow hi).length = 16 := by
  unfold extendedRow
  split <;> rfl

/-- The instruction behind the byte after the prefix (R142, R144, R255). -/
def decodeExtended (op2 : Byte) : Instr :=
  (extendedRow (op2.toNat / 16)).get ⟨op2.toNat % 16, by rw [extendedRow_length]; exact Nat.mod_lt _ (by decide)⟩

/-- R143, opcode bytes 0x00 to 0x0F. -/
def primaryRow0 : List Entry :=
  [fun _ _ => .nop, fun lo hi => .ldBcNn (joinBytes hi lo),
   fun _ _ => .ldIndBcA, fun _ _ => .incBc,
   fun _ _ => .incB, fun _ _ => .decB,
   fun n _ => .ldBN n, fun _ _ => .rlca,
   fun lo hi => .ldIndNnSp (joinBytes hi lo), fun _ _ => .addHlBc,
   fun _ _ => .ldAIndBc, fun _ _ => .decBc,
   fun _ _ => .incC, fun _ _ => .decC,
   fun n _ => .ldCN n, fun _ _ => .rrca]

/-- R143, opcode bytes 0x10 to 0x1F. -/
def primaryRow1 : List Entry :=
  [fun _ _ => .stop, fun lo hi => .ldDeNn (joinBytes hi lo),
   fun _ _ => .ldIndDeA, fun _ _ => .incDe,
   fun _ _ => .incD, fun _ _ => .decD,
   fun n _ => .ldDN n, fun _ _ => .rla,
   fun e _ => .jrE e, fun _ _ => .addHlDe,
   fun _ _ => .ldAIndDe, fun _ _ => .decDe,
   fun _ _ => .incE, fun _ _ => .decE,
   fun n _ => .ldEN n, fun _ _ => .rra]

/-- R143, opcode bytes 0x20 to 0x2F. -/
def primaryRow2 : List Entry :=
  [fun e _ => .jrNzE e, fun lo hi => .ldHlNn (joinBytes hi lo),
   fun _ _ => .ldIndHliA, fun _ _ => .incHl,
   fun _ _ => .incH, fun _ _ => .decH,
   fun n _ => .ldHN n, fun _ _ => .daa,
   fun e _ => .jrZE e, fun _ _ => .addHlHl,
   fun _ _ => .ldAIndHli, fun _ _ => .decHl,
   fun _ _ => .incL, fun _ _ => .decL,
   fun n _ => .ldLN n, fun _ _ => .cpl]

/-- R143, opcode bytes 0x30 to 0x3F. -/
def primaryRow3 : List Entry :=
  [fun e _ => .jrNcE e, fun lo hi => .ldSpNn (joinBytes hi lo),
   fun _ _ => .ldIndHldA, fun _ _ => .incSp,
   fun _ _ => .incIndHl, fun _ _ => .decIndHl,
   fun n _ => .ldIndHlN n, fun _ _ => .scf,
   fun e _ => .jrCE e, fun _ _ => .addHlSp,
   fun _ _ => .ldAIndHld, fun _ _ => .decSp,
   fun _ _ => .incA, fun _ _ => .decA,
   fun n _ => .ldAN n, fun _ _ => .ccf]

/-- R143, opcode bytes 0x40 to 0x4F. -/
def primaryRow4 : List Entry :=
  [fun _ _ => .ldBB, fun _ _ => .ldBC,
   fun _ _ => .ldBD, fun _ _ => .ldBE,
   fun _ _ => .ldBH, fun _ _ => .ldBL,
   fun _ _ => .ldBIndHl, fun _ _ => .ldBA,
   fun _ _ => .ldCB, fun _ _ => .ldCC,
   fun _ _ => .ldCD, fun _ _ => .ldCE,
   fun _ _ => .ldCH, fun _ _ => .ldCL,
   fun _ _ => .ldCIndHl, fun _ _ => .ldCA]

/-- R143, opcode bytes 0x50 to 0x5F. -/
def primaryRow5 : List Entry :=
  [fun _ _ => .ldDB, fun _ _ => .ldDC,
   fun _ _ => .ldDD, fun _ _ => .ldDE,
   fun _ _ => .ldDH, fun _ _ => .ldDL,
   fun _ _ => .ldDIndHl, fun _ _ => .ldDA,
   fun _ _ => .ldEB, fun _ _ => .ldEC,
   fun _ _ => .ldED, fun _ _ => .ldEE,
   fun _ _ => .ldEH, fun _ _ => .ldEL,
   fun _ _ => .ldEIndHl, fun _ _ => .ldEA]

/-- R143, opcode bytes 0x60 to 0x6F. -/
def primaryRow6 : List Entry :=
  [fun _ _ => .ldHB, fun _ _ => .ldHC,
   fun _ _ => .ldHD, fun _ _ => .ldHE,
   fun _ _ => .ldHH, fun _ _ => .ldHL,
   fun _ _ => .ldHIndHl, fun _ _ => .ldHA,
   fun _ _ => .ldLB, fun _ _ => .ldLC,
   fun _ _ => .ldLD, fun _ _ => .ldLE,
   fun _ _ => .ldLH, fun _ _ => .ldLL,
   fun _ _ => .ldLIndHl, fun _ _ => .ldLA]

/-- R143, opcode bytes 0x70 to 0x7F. -/
def primaryRow7 : List Entry :=
  [fun _ _ => .ldIndHlB, fun _ _ => .ldIndHlC,
   fun _ _ => .ldIndHlD, fun _ _ => .ldIndHlE,
   fun _ _ => .ldIndHlH, fun _ _ => .ldIndHlL,
   fun _ _ => .halt, fun _ _ => .ldIndHlA,
   fun _ _ => .ldAB, fun _ _ => .ldAC,
   fun _ _ => .ldAD, fun _ _ => .ldAE,
   fun _ _ => .ldAH, fun _ _ => .ldAL,
   fun _ _ => .ldAIndHl, fun _ _ => .ldAA]

/-- R143, opcode bytes 0x80 to 0x8F. -/
def primaryRow8 : List Entry :=
  [fun _ _ => .addAB, fun _ _ => .addAC,
   fun _ _ => .addAD, fun _ _ => .addAE,
   fun _ _ => .addAH, fun _ _ => .addAL,
   fun _ _ => .addAIndHl, fun _ _ => .addAA,
   fun _ _ => .adcAB, fun _ _ => .adcAC,
   fun _ _ => .adcAD, fun _ _ => .adcAE,
   fun _ _ => .adcAH, fun _ _ => .adcAL,
   fun _ _ => .adcAIndHl, fun _ _ => .adcAA]

/-- R143, opcode bytes 0x90 to 0x9F. -/
def primaryRow9 : List Entry :=
  [fun _ _ => .subB, fun _ _ => .subC,
   fun _ _ => .subD, fun _ _ => .subE,
   fun _ _ => .subH, fun _ _ => .subL,
   fun _ _ => .subIndHl, fun _ _ => .subA,
   fun _ _ => .sbcAB, fun _ _ => .sbcAC,
   fun _ _ => .sbcAD, fun _ _ => .sbcAE,
   fun _ _ => .sbcAH, fun _ _ => .sbcAL,
   fun _ _ => .sbcAIndHl, fun _ _ => .sbcAA]

/-- R143, opcode bytes 0xA0 to 0xAF. -/
def primaryRowA : List Entry :=
  [fun _ _ => .andB, fun _ _ => .andC,
   fun _ _ => .andD, fun _ _ => .andE,
   fun _ _ => .andH, fun _ _ => .andL,
   fun _ _ => .andIndHl, fun _ _ => .andA,
   fun _ _ => .xorB, fun _ _ => .xorC,
   fun _ _ => .xorD, fun _ _ => .xorE,
   fun _ _ => .xorH, fun _ _ => .xorL,
   fun _ _ => .xorIndHl, fun _ _ => .xorA]

/-- R143, opcode bytes 0xB0 to 0xBF. -/
def primaryRowB : List Entry :=
  [fun _ _ => .orB, fun _ _ => .orC,
   fun _ _ => .orD, fun _ _ => .orE,
   fun _ _ => .orH, fun _ _ => .orL,
   fun _ _ => .orIndHl, fun _ _ => .orA,
   fun _ _ => .cpB, fun _ _ => .cpC,
   fun _ _ => .cpD, fun _ _ => .cpE,
   fun _ _ => .cpH, fun _ _ => .cpL,
   fun _ _ => .cpIndHl, fun _ _ => .cpA]

/-- R143, opcode bytes 0xC0 to 0xCF. -/
def primaryRowC : List Entry :=
  [fun _ _ => .retNz, fun _ _ => .popBc,
   fun lo hi => .jpNzNn (joinBytes hi lo), fun lo hi => .jpNn (joinBytes hi lo),
   fun lo hi => .callNzNn (joinBytes hi lo), fun _ _ => .pushBc,
   fun n _ => .addAN n, fun _ _ => .rst00,
   fun _ _ => .retZ, fun _ _ => .ret,
   fun lo hi => .jpZNn (joinBytes hi lo), fun op2 _ => decodeExtended op2,
   fun lo hi => .callZNn (joinBytes hi lo), fun lo hi => .callNn (joinBytes hi lo),
   fun n _ => .adcAN n, fun _ _ => .rst08]

/-- R143, opcode bytes 0xD0 to 0xDF. -/
def primaryRowD : List Entry :=
  [fun _ _ => .retNc, fun _ _ => .popDe,
   fun lo hi => .jpNcNn (joinBytes hi lo), fun _ _ => .illegalD3,
   fun lo hi => .callNcNn (joinBytes hi lo), fun _ _ => .pushDe,
   fun n _ => .subN n, fun _ _ => .rst10,
   fun _ _ => .retC, fun _ _ => .reti,
   fun lo hi => .jpCNn (joinBytes hi lo), fun _ _ => .illegalDB,
   fun lo hi => .callCNn (joinBytes hi lo), fun _ _ => .illegalDD,
   fun n _ => .sbcAN n, fun _ _ => .rst18]

/-- R143, opcode bytes 0xE0 to 0xEF. -/
def primaryRowE : List Entry :=
  [fun n _ => .ldhIndNA n, fun _ _ => .popHl,
   fun _ _ => .ldhIndCA, fun _ _ => .illegalE3,
   fun _ _ => .illegalE4, fun _ _ => .pushHl,
   fun n _ => .andN n, fun _ _ => .rst20,
   fun e _ => .addSpE e, fun _ _ => .jpHl,
   fun lo hi => .ldIndNnA (joinBytes hi lo), fun _ _ => .illegalEB,
   fun _ _ => .illegalEC, fun _ _ => .illegalED,
   fun n _ => .xorN n, fun _ _ => .rst28]

/-- R143, opcode bytes 0xF0 to 0xFF. -/
def primaryRowF : List Entry :=
  [fun n _ => .ldhAIndN n, fun _ _ => .popAf,
   fun _ _ => .ldhAIndC, fun _ _ => .di,
   fun _ _ => .illegalF4, fun _ _ => .pushAf,
   fun n _ => .orN n, fun _ _ => .rst30,
   fun e _ => .ldHlSpE e, fun _ _ => .ldSpHl,
   fun lo hi => .ldAIndNn (joinBytes hi lo), fun _ _ => .ei,
   fun _ _ => .illegalFC, fun _ _ => .illegalFD,
   fun n _ => .cpN n, fun _ _ => .rst38]

/-- The primary opcode space by the high nibble of the opcode byte; 0xCB leads into the extended space (R142, R143). Every
value has an entry, the eleven unassigned ones too (R145). -/
def primaryRow (hi : Nat) : List Entry :=
  match hi with
  | 0 => primaryRow0
  | 1 => primaryRow1
  | 2 => primaryRow2
  | 3 => primaryRow3
  | 4 => primaryRow4
  | 5 => primaryRow5
  | 6 => primaryRow6
  | 7 => primaryRow7
  | 8 => primaryRow8
  | 9 => primaryRow9
  | 10 => primaryRowA
  | 11 => primaryRowB
  | 12 => primaryRowC
  | 13 => primaryRowD
  | 14 => primaryRowE
  | _ => primaryRowF

theorem primaryRow_length (hi : Nat) : (primaryRow hi).length = 16 := by
  unfold primaryRow
  split <;> rfl

/-- Dispatch on the full opcode value to exactly one entry (R150); `b1` and `b2` are the bytes after the opcode. -/
def decode (op b1 b2 : Byte) : Instr :=
  (primaryRow (op.toNat / 16)).get ⟨op.toNat % 16, by rw [primaryRow_length]; exact Nat.mod_lt _ (by decide)⟩ b1 b2

/-- The opcode bytes of the three-byte instructions (R149). -/
def threeByteOpcodes : List Byte :=
  [0x01, 0x11, 0x21, 0x31, 0x08, 0xC2, 0xCA, 0xD2, 0xDA, 0xC3, 0xC4, 0xCC, 0xD4, 0xDC, 0xCD, 0xEA, 0xFA]

/-- The opcode bytes of the two-byte instructions (R149). -/
def twoByteOpcodes : List Byte :=
  [0x06, 0x0E, 0x16, 0x1E, 0x26, 0x2E, 0x36, 0x3E, 0x18, 0x20, 0x28, 0x30, 0x38] ++
  [0xC6, 0xCE, 0xD6, 0xDE, 0xE6, 0xEE, 0xF6, 0xFE, 0xE0, 0xF0, 0xE8, 0xF8, 0xCB]

/-- The length of an instruction, from its opcode byte alone (R149). -/
def opcodeLength (op : Byte) : Nat :=
  if threeByteOpcodes.contains op then 3 else if twoByteOpcodes.contains op then 2 else 1

/-- Why a list of bytes is no instruction. Every opcode value is assigned a row, so the one reason is a missing byte. -/
inductive DecodeError where
  /-- The list ends before the instruction does. -/
  | truncated
  deriving DecidableEq, Repr

/-- Decode the front of a list of bytes: the instruction and the bytes after it, or the reason there is none. -/
def decodeBytes : List Byte → Except DecodeError (Instr × List Byte)
  | [] => .error .truncated
  | op :: rest =>
    if opcodeLength op = 1 then .ok (decode op 0 0, rest)
    else if opcodeLength op = 2 then
      match rest with
      | b1 :: more => .ok (decode op b1 0, more)
      | [] => .error .truncated
    else
      match rest with
      | b1 :: b2 :: more => .ok (decode op b1 b2, more)
      | _ => .error .truncated

/-- The bytes of a table word, first byte first, operand bytes above `nbits` zero. A 16-bit row is an extended row,
whose first byte, the prefix, the table numbers as bits 15 to 8 (R151: first byte most significant); every other word
counts from its first byte, bits 7 to 0 (log 8). -/
def tableWordBytes (nbits w : Nat) : List Byte :=
  if nbits = 16 ∧ w / 0x100 % 0x100 = 0xCB then [0xCB, BitVec.ofNat 8 w, 0]
  else
    let w := w % 2 ^ nbits
    [BitVec.ofNat 8 w, BitVec.ofNat 8 (w / 0x100), BitVec.ofNat 8 (w / 0x10000)]

/-- What the decoder reads from a word of spec/opcode_table.json. -/
def decodeTableWord (nbits w : Nat) : Option Instr :=
  match decodeBytes (tableWordBytes nbits w) with
  | .ok (i, _) => some i
  | .error _ => none

/-- The bytes of an instruction, first byte first (R132, R143, R144). -/
def encode : Instr → List Byte
  | .nop => [0x00]
  | .ldBcNn nn => [0x01, loByte nn, hiByte nn]
  | .ldIndBcA => [0x02]
  | .incBc => [0x03]
  | .incB => [0x04]
  | .decB => [0x05]
  | .ldBN n => [0x06, n]
  | .rlca => [0x07]
  | .ldIndNnSp nn => [0x08, loByte nn, hiByte nn]
  | .addHlBc => [0x09]
  | .ldAIndBc => [0x0A]
  | .decBc => [0x0B]
  | .incC => [0x0C]
  | .decC => [0x0D]
  | .ldCN n => [0x0E, n]
  | .rrca => [0x0F]
  | .stop => [0x10]
  | .ldDeNn nn => [0x11, loByte nn, hiByte nn]
  | .ldIndDeA => [0x12]
  | .incDe => [0x13]
  | .incD => [0x14]
  | .decD => [0x15]
  | .ldDN n => [0x16, n]
  | .rla => [0x17]
  | .jrE e => [0x18, e]
  | .addHlDe => [0x19]
  | .ldAIndDe => [0x1A]
  | .decDe => [0x1B]
  | .incE => [0x1C]
  | .decE => [0x1D]
  | .ldEN n => [0x1E, n]
  | .rra => [0x1F]
  | .jrNzE e => [0x20, e]
  | .ldHlNn nn => [0x21, loByte nn, hiByte nn]
  | .ldIndHliA => [0x22]
  | .incHl => [0x23]
  | .incH => [0x24]
  | .decH => [0x25]
  | .ldHN n => [0x26, n]
  | .daa => [0x27]
  | .jrZE e => [0x28, e]
  | .addHlHl => [0x29]
  | .ldAIndHli => [0x2A]
  | .decHl => [0x2B]
  | .incL => [0x2C]
  | .decL => [0x2D]
  | .ldLN n => [0x2E, n]
  | .cpl => [0x2F]
  | .jrNcE e => [0x30, e]
  | .ldSpNn nn => [0x31, loByte nn, hiByte nn]
  | .ldIndHldA => [0x32]
  | .incSp => [0x33]
  | .incIndHl => [0x34]
  | .decIndHl => [0x35]
  | .ldIndHlN n => [0x36, n]
  | .scf => [0x37]
  | .jrCE e => [0x38, e]
  | .addHlSp => [0x39]
  | .ldAIndHld => [0x3A]
  | .decSp => [0x3B]
  | .incA => [0x3C]
  | .decA => [0x3D]
  | .ldAN n => [0x3E, n]
  | .ccf => [0x3F]
  | .ldBB => [0x40]
  | .ldBC => [0x41]
  | .ldBD => [0x42]
  | .ldBE => [0x43]
  | .ldBH => [0x44]
  | .ldBL => [0x45]
  | .ldBIndHl => [0x46]
  | .ldBA => [0x47]
  | .ldCB => [0x48]
  | .ldCC => [0x49]
  | .ldCD => [0x4A]
  | .ldCE => [0x4B]
  | .ldCH => [0x4C]
  | .ldCL => [0x4D]
  | .ldCIndHl => [0x4E]
  | .ldCA => [0x4F]
  | .ldDB => [0x50]
  | .ldDC => [0x51]
  | .ldDD => [0x52]
  | .ldDE => [0x53]
  | .ldDH => [0x54]
  | .ldDL => [0x55]
  | .ldDIndHl => [0x56]
  | .ldDA => [0x57]
  | .ldEB => [0x58]
  | .ldEC => [0x59]
  | .ldED => [0x5A]
  | .ldEE => [0x5B]
  | .ldEH => [0x5C]
  | .ldEL => [0x5D]
  | .ldEIndHl => [0x5E]
  | .ldEA => [0x5F]
  | .ldHB => [0x60]
  | .ldHC => [0x61]
  | .ldHD => [0x62]
  | .ldHE => [0x63]
  | .ldHH => [0x64]
  | .ldHL => [0x65]
  | .ldHIndHl => [0x66]
  | .ldHA => [0x67]
  | .ldLB => [0x68]
  | .ldLC => [0x69]
  | .ldLD => [0x6A]
  | .ldLE => [0x6B]
  | .ldLH => [0x6C]
  | .ldLL => [0x6D]
  | .ldLIndHl => [0x6E]
  | .ldLA => [0x6F]
  | .ldIndHlB => [0x70]
  | .ldIndHlC => [0x71]
  | .ldIndHlD => [0x72]
  | .ldIndHlE => [0x73]
  | .ldIndHlH => [0x74]
  | .ldIndHlL => [0x75]
  | .halt => [0x76]
  | .ldIndHlA => [0x77]
  | .ldAB => [0x78]
  | .ldAC => [0x79]
  | .ldAD => [0x7A]
  | .ldAE => [0x7B]
  | .ldAH => [0x7C]
  | .ldAL => [0x7D]
  | .ldAIndHl => [0x7E]
  | .ldAA => [0x7F]
  | .addAB => [0x80]
  | .addAC => [0x81]
  | .addAD => [0x82]
  | .addAE => [0x83]
  | .addAH => [0x84]
  | .addAL => [0x85]
  | .addAIndHl => [0x86]
  | .addAA => [0x87]
  | .adcAB => [0x88]
  | .adcAC => [0x89]
  | .adcAD => [0x8A]
  | .adcAE => [0x8B]
  | .adcAH => [0x8C]
  | .adcAL => [0x8D]
  | .adcAIndHl => [0x8E]
  | .adcAA => [0x8F]
  | .subB => [0x90]
  | .subC => [0x91]
  | .subD => [0x92]
  | .subE => [0x93]
  | .subH => [0x94]
  | .subL => [0x95]
  | .subIndHl => [0x96]
  | .subA => [0x97]
  | .sbcAB => [0x98]
  | .sbcAC => [0x99]
  | .sbcAD => [0x9A]
  | .sbcAE => [0x9B]
  | .sbcAH => [0x9C]
  | .sbcAL => [0x9D]
  | .sbcAIndHl => [0x9E]
  | .sbcAA => [0x9F]
  | .andB => [0xA0]
  | .andC => [0xA1]
  | .andD => [0xA2]
  | .andE => [0xA3]
  | .andH => [0xA4]
  | .andL => [0xA5]
  | .andIndHl => [0xA6]
  | .andA => [0xA7]
  | .xorB => [0xA8]
  | .xorC => [0xA9]
  | .xorD => [0xAA]
  | .xorE => [0xAB]
  | .xorH => [0xAC]
  | .xorL => [0xAD]
  | .xorIndHl => [0xAE]
  | .xorA => [0xAF]
  | .orB => [0xB0]
  | .orC => [0xB1]
  | .orD => [0xB2]
  | .orE => [0xB3]
  | .orH => [0xB4]
  | .orL => [0xB5]
  | .orIndHl => [0xB6]
  | .orA => [0xB7]
  | .cpB => [0xB8]
  | .cpC => [0xB9]
  | .cpD => [0xBA]
  | .cpE => [0xBB]
  | .cpH => [0xBC]
  | .cpL => [0xBD]
  | .cpIndHl => [0xBE]
  | .cpA => [0xBF]
  | .retNz => [0xC0]
  | .popBc => [0xC1]
  | .jpNzNn nn => [0xC2, loByte nn, hiByte nn]
  | .jpNn nn => [0xC3, loByte nn, hiByte nn]
  | .callNzNn nn => [0xC4, loByte nn, hiByte nn]
  | .pushBc => [0xC5]
  | .addAN n => [0xC6, n]
  | .rst00 => [0xC7]
  | .retZ => [0xC8]
  | .ret => [0xC9]
  | .jpZNn nn => [0xCA, loByte nn, hiByte nn]
  | .prefixCb op2 => [0xCB, op2]
  | .callZNn nn => [0xCC, loByte nn, hiByte nn]
  | .callNn nn => [0xCD, loByte nn, hiByte nn]
  | .adcAN n => [0xCE, n]
  | .rst08 => [0xCF]
  | .retNc => [0xD0]
  | .popDe => [0xD1]
  | .jpNcNn nn => [0xD2, loByte nn, hiByte nn]
  | .illegalD3 => [0xD3]
  | .callNcNn nn => [0xD4, loByte nn, hiByte nn]
  | .pushDe => [0xD5]
  | .subN n => [0xD6, n]
  | .rst10 => [0xD7]
  | .retC => [0xD8]
  | .reti => [0xD9]
  | .jpCNn nn => [0xDA, loByte nn, hiByte nn]
  | .illegalDB => [0xDB]
  | .callCNn nn => [0xDC, loByte nn, hiByte nn]
  | .illegalDD => [0xDD]
  | .sbcAN n => [0xDE, n]
  | .rst18 => [0xDF]
  | .ldhIndNA n => [0xE0, n]
  | .popHl => [0xE1]
  | .ldhIndCA => [0xE2]
  | .illegalE3 => [0xE3]
  | .illegalE4 => [0xE4]
  | .pushHl => [0xE5]
  | .andN n => [0xE6, n]
  | .rst20 => [0xE7]
  | .addSpE e => [0xE8, e]
  | .jpHl => [0xE9]
  | .ldIndNnA nn => [0xEA, loByte nn, hiByte nn]
  | .illegalEB => [0xEB]
  | .illegalEC => [0xEC]
  | .illegalED => [0xED]
  | .xorN n => [0xEE, n]
  | .rst28 => [0xEF]
  | .ldhAIndN n => [0xF0, n]
  | .popAf => [0xF1]
  | .ldhAIndC => [0xF2]
  | .di => [0xF3]
  | .illegalF4 => [0xF4]
  | .pushAf => [0xF5]
  | .orN n => [0xF6, n]
  | .rst30 => [0xF7]
  | .ldHlSpE e => [0xF8, e]
  | .ldSpHl => [0xF9]
  | .ldAIndNn nn => [0xFA, loByte nn, hiByte nn]
  | .ei => [0xFB]
  | .illegalFC => [0xFC]
  | .illegalFD => [0xFD]
  | .cpN n => [0xFE, n]
  | .rst38 => [0xFF]
  | .rlcB => [0xCB, 0x00]
  | .rlcC => [0xCB, 0x01]
  | .rlcD => [0xCB, 0x02]
  | .rlcE => [0xCB, 0x03]
  | .rlcH => [0xCB, 0x04]
  | .rlcL => [0xCB, 0x05]
  | .rlcIndHl => [0xCB, 0x06]
  | .rlcA => [0xCB, 0x07]
  | .rrcB => [0xCB, 0x08]
  | .rrcC => [0xCB, 0x09]
  | .rrcD => [0xCB, 0x0A]
  | .rrcE => [0xCB, 0x0B]
  | .rrcH => [0xCB, 0x0C]
  | .rrcL => [0xCB, 0x0D]
  | .rrcIndHl => [0xCB, 0x0E]
  | .rrcA => [0xCB, 0x0F]
  | .rlB => [0xCB, 0x10]
  | .rlC => [0xCB, 0x11]
  | .rlD => [0xCB, 0x12]
  | .rlE => [0xCB, 0x13]
  | .rlH => [0xCB, 0x14]
  | .rlL => [0xCB, 0x15]
  | .rlIndHl => [0xCB, 0x16]
  | .rlA => [0xCB, 0x17]
  | .rrB => [0xCB, 0x18]
  | .rrC => [0xCB, 0x19]
  | .rrD => [0xCB, 0x1A]
  | .rrE => [0xCB, 0x1B]
  | .rrH => [0xCB, 0x1C]
  | .rrL => [0xCB, 0x1D]
  | .rrIndHl => [0xCB, 0x1E]
  | .rrA => [0xCB, 0x1F]
  | .slaB => [0xCB, 0x20]
  | .slaC => [0xCB, 0x21]
  | .slaD => [0xCB, 0x22]
  | .slaE => [0xCB, 0x23]
  | .slaH => [0xCB, 0x24]
  | .slaL => [0xCB, 0x25]
  | .slaIndHl => [0xCB, 0x26]
  | .slaA => [0xCB, 0x27]
  | .sraB => [0xCB, 0x28]
  | .sraC => [0xCB, 0x29]
  | .sraD => [0xCB, 0x2A]
  | .sraE => [0xCB, 0x2B]
  | .sraH => [0xCB, 0x2C]
  | .sraL => [0xCB, 0x2D]
  | .sraIndHl => [0xCB, 0x2E]
  | .sraA => [0xCB, 0x2F]
  | .swapB => [0xCB, 0x30]
  | .swapC => [0xCB, 0x31]
  | .swapD => [0xCB, 0x32]
  | .swapE => [0xCB, 0x33]
  | .swapH => [0xCB, 0x34]
  | .swapL => [0xCB, 0x35]
  | .swapIndHl => [0xCB, 0x36]
  | .swapA => [0xCB, 0x37]
  | .srlB => [0xCB, 0x38]
  | .srlC => [0xCB, 0x39]
  | .srlD => [0xCB, 0x3A]
  | .srlE => [0xCB, 0x3B]
  | .srlH => [0xCB, 0x3C]
  | .srlL => [0xCB, 0x3D]
  | .srlIndHl => [0xCB, 0x3E]
  | .srlA => [0xCB, 0x3F]
  | .bit0B => [0xCB, 0x40]
  | .bit0C => [0xCB, 0x41]
  | .bit0D => [0xCB, 0x42]
  | .bit0E => [0xCB, 0x43]
  | .bit0H => [0xCB, 0x44]
  | .bit0L => [0xCB, 0x45]
  | .bit0IndHl => [0xCB, 0x46]
  | .bit0A => [0xCB, 0x47]
  | .bit1B => [0xCB, 0x48]
  | .bit1C => [0xCB, 0x49]
  | .bit1D => [0xCB, 0x4A]
  | .bit1E => [0xCB, 0x4B]
  | .bit1H => [0xCB, 0x4C]
  | .bit1L => [0xCB, 0x4D]
  | .bit1IndHl => [0xCB, 0x4E]
  | .bit1A => [0xCB, 0x4F]
  | .bit2B => [0xCB, 0x50]
  | .bit2C => [0xCB, 0x51]
  | .bit2D => [0xCB, 0x52]
  | .bit2E => [0xCB, 0x53]
  | .bit2H => [0xCB, 0x54]
  | .bit2L => [0xCB, 0x55]
  | .bit2IndHl => [0xCB, 0x56]
  | .bit2A => [0xCB, 0x57]
  | .bit3B => [0xCB, 0x58]
  | .bit3C => [0xCB, 0x59]
  | .bit3D => [0xCB, 0x5A]
  | .bit3E => [0xCB, 0x5B]
  | .bit3H => [0xCB, 0x5C]
  | .bit3L => [0xCB, 0x5D]
  | .bit3IndHl => [0xCB, 0x5E]
  | .bit3A => [0xCB, 0x5F]
  | .bit4B => [0xCB, 0x60]
  | .bit4C => [0xCB, 0x61]
  | .bit4D => [0xCB, 0x62]
  | .bit4E => [0xCB, 0x63]
  | .bit4H => [0xCB, 0x64]
  | .bit4L => [0xCB, 0x65]
  | .bit4IndHl => [0xCB, 0x66]
  | .bit4A => [0xCB, 0x67]
  | .bit5B => [0xCB, 0x68]
  | .bit5C => [0xCB, 0x69]
  | .bit5D => [0xCB, 0x6A]
  | .bit5E => [0xCB, 0x6B]
  | .bit5H => [0xCB, 0x6C]
  | .bit5L => [0xCB, 0x6D]
  | .bit5IndHl => [0xCB, 0x6E]
  | .bit5A => [0xCB, 0x6F]
  | .bit6B => [0xCB, 0x70]
  | .bit6C => [0xCB, 0x71]
  | .bit6D => [0xCB, 0x72]
  | .bit6E => [0xCB, 0x73]
  | .bit6H => [0xCB, 0x74]
  | .bit6L => [0xCB, 0x75]
  | .bit6IndHl => [0xCB, 0x76]
  | .bit6A => [0xCB, 0x77]
  | .bit7B => [0xCB, 0x78]
  | .bit7C => [0xCB, 0x79]
  | .bit7D => [0xCB, 0x7A]
  | .bit7E => [0xCB, 0x7B]
  | .bit7H => [0xCB, 0x7C]
  | .bit7L => [0xCB, 0x7D]
  | .bit7IndHl => [0xCB, 0x7E]
  | .bit7A => [0xCB, 0x7F]
  | .res0B => [0xCB, 0x80]
  | .res0C => [0xCB, 0x81]
  | .res0D => [0xCB, 0x82]
  | .res0E => [0xCB, 0x83]
  | .res0H => [0xCB, 0x84]
  | .res0L => [0xCB, 0x85]
  | .res0IndHl => [0xCB, 0x86]
  | .res0A => [0xCB, 0x87]
  | .res1B => [0xCB, 0x88]
  | .res1C => [0xCB, 0x89]
  | .res1D => [0xCB, 0x8A]
  | .res1E => [0xCB, 0x8B]
  | .res1H => [0xCB, 0x8C]
  | .res1L => [0xCB, 0x8D]
  | .res1IndHl => [0xCB, 0x8E]
  | .res1A => [0xCB, 0x8F]
  | .res2B => [0xCB, 0x90]
  | .res2C => [0xCB, 0x91]
  | .res2D => [0xCB, 0x92]
  | .res2E => [0xCB, 0x93]
  | .res2H => [0xCB, 0x94]
  | .res2L => [0xCB, 0x95]
  | .res2IndHl => [0xCB, 0x96]
  | .res2A => [0xCB, 0x97]
  | .res3B => [0xCB, 0x98]
  | .res3C => [0xCB, 0x99]
  | .res3D => [0xCB, 0x9A]
  | .res3E => [0xCB, 0x9B]
  | .res3H => [0xCB, 0x9C]
  | .res3L => [0xCB, 0x9D]
  | .res3IndHl => [0xCB, 0x9E]
  | .res3A => [0xCB, 0x9F]
  | .res4B => [0xCB, 0xA0]
  | .res4C => [0xCB, 0xA1]
  | .res4D => [0xCB, 0xA2]
  | .res4E => [0xCB, 0xA3]
  | .res4H => [0xCB, 0xA4]
  | .res4L => [0xCB, 0xA5]
  | .res4IndHl => [0xCB, 0xA6]
  | .res4A => [0xCB, 0xA7]
  | .res5B => [0xCB, 0xA8]
  | .res5C => [0xCB, 0xA9]
  | .res5D => [0xCB, 0xAA]
  | .res5E => [0xCB, 0xAB]
  | .res5H => [0xCB, 0xAC]
  | .res5L => [0xCB, 0xAD]
  | .res5IndHl => [0xCB, 0xAE]
  | .res5A => [0xCB, 0xAF]
  | .res6B => [0xCB, 0xB0]
  | .res6C => [0xCB, 0xB1]
  | .res6D => [0xCB, 0xB2]
  | .res6E => [0xCB, 0xB3]
  | .res6H => [0xCB, 0xB4]
  | .res6L => [0xCB, 0xB5]
  | .res6IndHl => [0xCB, 0xB6]
  | .res6A => [0xCB, 0xB7]
  | .res7B => [0xCB, 0xB8]
  | .res7C => [0xCB, 0xB9]
  | .res7D => [0xCB, 0xBA]
  | .res7E => [0xCB, 0xBB]
  | .res7H => [0xCB, 0xBC]
  | .res7L => [0xCB, 0xBD]
  | .res7IndHl => [0xCB, 0xBE]
  | .res7A => [0xCB, 0xBF]
  | .set0B => [0xCB, 0xC0]
  | .set0C => [0xCB, 0xC1]
  | .set0D => [0xCB, 0xC2]
  | .set0E => [0xCB, 0xC3]
  | .set0H => [0xCB, 0xC4]
  | .set0L => [0xCB, 0xC5]
  | .set0IndHl => [0xCB, 0xC6]
  | .set0A => [0xCB, 0xC7]
  | .set1B => [0xCB, 0xC8]
  | .set1C => [0xCB, 0xC9]
  | .set1D => [0xCB, 0xCA]
  | .set1E => [0xCB, 0xCB]
  | .set1H => [0xCB, 0xCC]
  | .set1L => [0xCB, 0xCD]
  | .set1IndHl => [0xCB, 0xCE]
  | .set1A => [0xCB, 0xCF]
  | .set2B => [0xCB, 0xD0]
  | .set2C => [0xCB, 0xD1]
  | .set2D => [0xCB, 0xD2]
  | .set2E => [0xCB, 0xD3]
  | .set2H => [0xCB, 0xD4]
  | .set2L => [0xCB, 0xD5]
  | .set2IndHl => [0xCB, 0xD6]
  | .set2A => [0xCB, 0xD7]
  | .set3B => [0xCB, 0xD8]
  | .set3C => [0xCB, 0xD9]
  | .set3D => [0xCB, 0xDA]
  | .set3E => [0xCB, 0xDB]
  | .set3H => [0xCB, 0xDC]
  | .set3L => [0xCB, 0xDD]
  | .set3IndHl => [0xCB, 0xDE]
  | .set3A => [0xCB, 0xDF]
  | .set4B => [0xCB, 0xE0]
  | .set4C => [0xCB, 0xE1]
  | .set4D => [0xCB, 0xE2]
  | .set4E => [0xCB, 0xE3]
  | .set4H => [0xCB, 0xE4]
  | .set4L => [0xCB, 0xE5]
  | .set4IndHl => [0xCB, 0xE6]
  | .set4A => [0xCB, 0xE7]
  | .set5B => [0xCB, 0xE8]
  | .set5C => [0xCB, 0xE9]
  | .set5D => [0xCB, 0xEA]
  | .set5E => [0xCB, 0xEB]
  | .set5H => [0xCB, 0xEC]
  | .set5L => [0xCB, 0xED]
  | .set5IndHl => [0xCB, 0xEE]
  | .set5A => [0xCB, 0xEF]
  | .set6B => [0xCB, 0xF0]
  | .set6C => [0xCB, 0xF1]
  | .set6D => [0xCB, 0xF2]
  | .set6E => [0xCB, 0xF3]
  | .set6H => [0xCB, 0xF4]
  | .set6L => [0xCB, 0xF5]
  | .set6IndHl => [0xCB, 0xF6]
  | .set6A => [0xCB, 0xF7]
  | .set7B => [0xCB, 0xF8]
  | .set7C => [0xCB, 0xF9]
  | .set7D => [0xCB, 0xFA]
  | .set7E => [0xCB, 0xFB]
  | .set7H => [0xCB, 0xFC]
  | .set7L => [0xCB, 0xFD]
  | .set7IndHl => [0xCB, 0xFE]
  | .set7A => [0xCB, 0xFF]

end Sys2Proof
end

