-- ==== Sys2Proof/Machine/Flags.lean ====
section
/-! DEFINITION. The flag byte F and every flag computation (10_state.md R22 to R26; 42_alu8.md; 43_alu16.md;
44_accumulator_misc.md; 47_cb_prefixed.md). Each computation answers the result and the new F. -/

namespace Sys2Proof.Machine

/-- F from its four flags: Z bit 7, N bit 6, H bit 5, C bit 4, the low nibble 0 (R22). -/
def packFlags (z n h c : Bool) : Byte :=
  (if z then 0x80 else 0) ||| (if n then 0x40 else 0) ||| (if h then 0x20 else 0) ||| (if c then 0x10 else 0)

/-- Bits 3 to 0 of F are always 0: the mask of every read and write of F (R22, log 15). -/
def maskF (v : Byte) : Byte := v &&& 0xF0

/-- Flag Z (R23). -/
def State.flagZ (s : State) : Bool := s.f.getLsbD 7
/-- Flag N (R24). -/
def State.flagN (s : State) : Bool := s.f.getLsbD 6
/-- Flag H (R25). -/
def State.flagH (s : State) : Bool := s.f.getLsbD 5
/-- Flag C (R26). -/
def State.flagC (s : State) : Bool := s.f.getLsbD 4

/-- F as software reads it (R22). -/
def State.readF (s : State) : Byte := maskF s.f

/-- A write of F from a byte (R22, R138). -/
def State.setF (s : State) (v : Byte) : State := { s with f := maskF v }

/-- `Add8(a, b, cin)` (R190). -/
def add8 (a b : Byte) (cin : Bool) : Byte × Byte :=
  let r := a.toNat + b.toNat + cin.toNat
  (BitVec.ofNat 8 r,
   packFlags (r % 256 == 0) false (decide (15 < a.toNat % 16 + b.toNat % 16 + cin.toNat)) (decide (255 < r)))

/-- `Sub8(a, b, cin)` (R191). -/
def sub8 (a b : Byte) (cin : Bool) : Byte × Byte :=
  let r := a - b - BitVec.ofNat 8 cin.toNat
  (r, packFlags (r == 0) true (decide (a.toNat % 16 < b.toNat % 16 + cin.toNat)) (decide (a.toNat < b.toNat + cin.toNat)))

/-- Flag N after AND, XOR, OR, by `LOGIC_N_POLICY` (42_alu8.md, section AND, XOR, OR). -/
def logicN (old : Bool) : Bool :=
  match Config.logicNPolicy with
  | .clear => false
  | .keep => old

/-- `A & v` (R204). -/
def and8 (a b : Byte) (oldN : Bool) : Byte × Byte :=
  let r := a &&& b
  (r, packFlags (r == 0) (logicN oldN) true false)

/-- `A ^ v` (R207). -/
def xor8 (a b : Byte) (oldN : Bool) : Byte × Byte :=
  let r := a ^^^ b
  (r, packFlags (r == 0) (logicN oldN) false false)

/-- `A | v` (R210). -/
def or8 (a b : Byte) (oldN : Bool) : Byte × Byte :=
  let r := a ||| b
  (r, packFlags (r == 0) (logicN oldN) false false)

/-- `INC` of an 8-bit operand; C keeps its value (R216). -/
def inc8 (v : Byte) (c : Bool) : Byte × Byte :=
  let r := v + 1
  (r, packFlags (r == 0) false (v.toNat % 16 == 15) c)

/-- `DEC` of an 8-bit operand; C keeps its value (R218). -/
def dec8 (v : Byte) (c : Bool) : Byte × Byte :=
  let r := v - 1
  (r, packFlags (r == 0) true (v.toNat % 16 == 0) c)

/-- The sum and flags of `ADD HL,rr`; Z keeps its value (R220). -/
def add16 (a b : Word) (z : Bool) : Word × Byte :=
  let r := a.toNat + b.toNat
  (BitVec.ofNat 16 r,
   packFlags z false (decide (0x0FFF < a.toNat % 0x1000 + b.toNat % 0x1000)) (decide (0xFFFF < r)))

/-- The number a byte stands for in two's complement, as a 16-bit value (00_scope.md R9, R134). -/
def sext8 (e : Byte) : Word := e.signExtend 16

/-- `AddSpE(e)`: flags from the unsigned sum of the low bytes (R224). -/
def addSpE (sp : Word) (e : Byte) : Word × Byte :=
  (sp + sext8 e,
   packFlags false false (decide (0x0F < sp.toNat % 0x10 + e.toNat % 0x10)) (decide (0xFF < sp.toNat % 0x100 + e.toNat)))

/-- The result of a rotate, shift or swap and the bit shifted out, from the operand and the old carry
(R261 to R275; SWAP shifts nothing out, R273). -/
def rotate (o : RotOp) (v : Byte) (carry : Bool) : Byte × Bool :=
  let top := v.getLsbD 7
  let low := v.getLsbD 0
  let bit0 (x : Bool) : Byte := if x then 0x01 else 0
  let bit7 (x : Bool) : Byte := if x then 0x80 else 0
  match o with
  | .rlc => ((v <<< 1) ||| bit0 top, top)
  | .rrc => ((v >>> 1) ||| bit7 low, low)
  | .rl => ((v <<< 1) ||| bit0 carry, top)
  | .rr => ((v >>> 1) ||| bit7 carry, low)
  | .sla => (v <<< 1, top)
  | .sra => ((v >>> 1) ||| (v &&& 0x80), low)
  | .swap => ((v <<< 4) ||| (v >>> 4), false)
  | .srl => (v >>> 1, low)

/-- A rotate or shift of the extended space with its flags (R260). -/
def rotateFlags (o : RotOp) (v : Byte) (carry : Bool) : Byte × Byte :=
  let (r, c) := rotate o v carry
  (r, packFlags (r == 0) false false c)

/-- A short form on the accumulator: the same movement, Z forced to 0 (R226 to R229). -/
def rotateShort (o : RotOp) (v : Byte) (carry : Bool) : Byte × Byte :=
  let (r, c) := rotate o v carry
  (r, packFlags false false false c)

/-- `DAA`: the decimal adjustment of A (R230); both tests are made on the value before any correction (D33). -/
def daa (a : Byte) (n h c : Bool) : Byte × Byte :=
  if n then
    let a1 := if c then a - 0x60 else a
    let a2 := if h then a1 - 0x06 else a1
    (a2, packFlags (a2 == 0) n false c)
  else
    let high := c || decide (0x99 < a.toNat)
    let low := h || decide (9 < a.toNat % 16)
    let a1 := if high then a + 0x60 else a
    let a2 := if low then a1 + 0x06 else a1
    (a2, packFlags (a2 == 0) n false high)

/-- The flags of `BIT b`: Z is the complement of the tested bit, C keeps its value (R277). -/
def bitFlags (bit : Nat) (v : Byte) (c : Bool) : Byte := packFlags (!v.getLsbD bit) false true c

/-- The mask with bit `b` alone set (R279, R281). -/
def bitMask (bit : Nat) : Byte := (1 : Byte) <<< bit

end Sys2Proof.Machine
end

