-- ==== Sys2Proof/Machine/Operands.lean ====
section
/-! DEFINITION. Registers, pairs, conditions and the operand maps by number (10_state.md R20, R21;
30_encoding.md R136 to R141; 45_control.md R246). The (HL) form of an operand is in Ops. -/

namespace Sys2Proof.Machine

/-- The value of an 8-bit register (R20). -/
def State.reg (s : State) : Reg8 → Byte
  | .b => s.b
  | .c => s.c
  | .d => s.d
  | .e => s.e
  | .h => s.h
  | .l => s.l
  | .a => s.a

/-- A write of an 8-bit register (R20). -/
def State.setReg (s : State) (r : Reg8) (v : Byte) : State :=
  match r with
  | .b => { s with b := v }
  | .c => { s with c := v }
  | .d => { s with d := v }
  | .e => { s with e := v }
  | .h => { s with h := v }
  | .l => { s with l := v }
  | .a => { s with a := v }

/-- BC = B:C (R21). -/
def State.bc (s : State) : Word := joinBytes s.b s.c
/-- DE = D:E (R21). -/
def State.de (s : State) : Word := joinBytes s.d s.e
/-- HL = H:L (R21). -/
def State.hl (s : State) : Word := joinBytes s.h s.l
/-- AF = A:F, the low nibble of F reading as 0 (R21, R22). -/
def State.af (s : State) : Word := joinBytes s.a s.readF

/-- A write of BC (R21). -/
def State.setBC (s : State) (v : Word) : State := { s with b := hiByte v, c := loByte v }
/-- A write of DE (R21). -/
def State.setDE (s : State) (v : Word) : State := { s with d := hiByte v, e := loByte v }
/-- A write of HL (R21). -/
def State.setHL (s : State) (v : Word) : State := { s with h := hiByte v, l := loByte v }
/-- A write of AF: the write of F masks the low nibble (R21, R22, R138). -/
def State.setAF (s : State) (v : Word) : State := { s with a := hiByte v, f := maskF (loByte v) }
/-- A write of SP (R27). -/
def State.setSP (s : State) (v : Word) : State := { s with sp := v }
/-- A write of the program counter, all 16 bits (R28). -/
def State.setPC (s : State) (v : Word) : State := { s with pc := v }

/-- The `rr` operand map (R137). -/
def State.pair (s : State) : Pair → Word
  | .bc => s.bc
  | .de => s.de
  | .hl => s.hl
  | .sp => s.sp

/-- A write of an `rr` operand (R137). -/
def State.setPair (s : State) (p : Pair) (v : Word) : State :=
  match p with
  | .bc => s.setBC v
  | .de => s.setDE v
  | .hl => s.setHL v
  | .sp => s.setSP v

/-- The `qq` operand map (R138). -/
def State.stackPair (s : State) : StackPair → Word
  | .bc => s.bc
  | .de => s.de
  | .hl => s.hl
  | .af => s.af

/-- A write of a `qq` operand (R138). -/
def State.setStackPair (s : State) (q : StackPair) (v : Word) : State :=
  match q with
  | .bc => s.setBC v
  | .de => s.setDE v
  | .hl => s.setHL v
  | .af => s.setAF v

/-- Condition evaluation (R246, R139). -/
def State.cond (s : State) : Cond → Bool
  | .nz => !s.flagZ
  | .z => s.flagZ
  | .nc => !s.flagC
  | .c => s.flagC

/-- The `r8` operand map by number (R136). -/
def operand8OfIndex (i : Nat) : Operand8 :=
  match i with
  | 0 => .reg .b
  | 1 => .reg .c
  | 2 => .reg .d
  | 3 => .reg .e
  | 4 => .reg .h
  | 5 => .reg .l
  | 6 => .atHl
  | _ => .reg .a

/-- The rotate-operation numbers (R141). -/
def rotOpOfIndex (i : Nat) : RotOp :=
  match i with
  | 0 => .rlc
  | 1 => .rrc
  | 2 => .rl
  | 3 => .rr
  | 4 => .sla
  | 5 => .sra
  | 6 => .swap
  | _ => .srl

end Sys2Proof.Machine
end

