-- ==== Sys2Proof/Machine/Ops.lean ====
section
/-! DEFINITION. The shared operations: the bank controller, the router, the processor's accesses, fetch, stack,
the router update, the interrupt entry and the return from it (20_memory.md, 30_encoding.md R150,
41_load16.md R186 R187, 60_exceptions.md R300 to R319). -/

namespace Sys2Proof.Machine

/-- What an operation that can stop the run answers (00_scope.md R11). -/
abbrev Result := Host.Outcome State Fault Refusal

/-- Go on with `k` if the run has not stopped. -/
def andThen (r : Result) (k : State → Result) : Result :=
  match r with
  | .next s => k s
  | .fault f => .fault f
  | .refused q => .refused q

/-! ### The bank controller -/

/-- `EffectiveRomBank()` (R85). -/
def effectiveRomBank (s : State) : Nat :=
  let n := if s.bankMode then s.bankLo.toNat else s.bankHi.toNat * 32 + s.bankLo.toNat
  let n := if n % 32 = 0 then n + 1 else n
  n &&& (s.romBanks - 1)

/-- `EffectiveRamBank()` (R86). -/
def effectiveRamBank (s : State) : Nat := if s.bankMode then s.bankHi.toNat else 0

/-- The ROM image index behind an address of the high ROM window (R88). -/
def romHighIndex (s : State) (addr : Word) : Nat := effectiveRomBank s * 0x4000 + (addr.toNat - 0x4000)

/-- The cartridge RAM index behind an address of the external-RAM window (R89). -/
def extRamIndex (s : State) (addr : Word) : Nat :=
  (effectiveRamBank s * 0x2000 + (addr.toNat - 0xA000)) &&& (s.ramSize - 1)

/-- Cartridge RAM answers only while armed and present (R89, R90, D22). -/
def extRamOpen (s : State) : Bool := s.ramEnable && decide (s.ramSize ≠ 0)

/-- A bus write to the ROM windows: one of the four controller registers, by 8 KiB window (R80 to R84). -/
def controllerWrite (addr : Word) (v : Byte) (s : State) : State :=
  if addr.toNat < 0x2000 then { s with ramEnable := v.setWidth 4 == Config.ramEnablePattern }
  else if addr.toNat < 0x4000 then { s with bankLo := v.setWidth 5 }
  else if addr.toNat < 0x6000 then { s with bankHi := v.setWidth 2 }
  else { s with bankMode := v.getLsbD 0 }

/-! ### The router -/

/-- The owner of an address (R63). -/
inductive Region where
  | romLow | romHigh | extRam | wram | echo | hram | ifReg | ieReg | dmaTrigger | unmapped
  | device (d : Device)
  deriving DecidableEq, Repr

/-- The address map (R63), from the lowest address up. -/
def regionOf (addr : Word) : Region :=
  let x := addr.toNat
  if x < 0x4000 then .romLow
  else if x < 0x8000 then .romHigh
  else if x < 0xA000 then .device .video
  else if x < 0xC000 then .extRam
  else if x < 0xE000 then .wram
  else if x < 0xFE00 then .echo
  else if x < 0xFEA0 then .device .video
  else if x < 0xFF00 then .unmapped
  else if x = 0xFF00 then .device .joypad
  else if x < 0xFF04 then .unmapped
  else if x < 0xFF08 then .device .timer
  else if x < 0xFF0F then .unmapped
  else if x = 0xFF0F then .ifReg
  else if x < 0xFF40 then .unmapped
  else if x = 0xFF46 then .dmaTrigger
  else if x < 0xFF4C then .device .video
  else if x < 0xFF80 then .unmapped
  else if x < 0xFFFF then .hram
  else .ieReg

/-- A read forwarded to a peripheral: the byte is a free value (R71, U13, log 1). -/
def deviceRead (d : Device) (addr : Word) (s : State) : Byte × State :=
  (Config.deviceByte s.draws, { s with draws := s.draws + 1, deviceEvents := s.deviceEvents ++ [.read d addr] })

/-- A write forwarded to a peripheral: what it does there is outside the core (R71, log 3). -/
def deviceWrite (d : Device) (addr : Word) (v : Byte) (s : State) : State :=
  { s with deviceEvents := s.deviceEvents ++ [.write d addr v] }

/-- `Router.read` (R63 to R71, R87 to R89); a read of the DMA trigger goes to the video peripheral (R72). -/
def routerRead (addr : Word) (s : State) : Byte × State :=
  match regionOf addr with
  | .romLow => (s.rom.read addr.toNat, s)
  | .romHigh => (s.rom.read (romHighIndex s addr), s)
  | .extRam => (if extRamOpen s then s.cartRam.read (extRamIndex s addr) else Config.ramDisabledRead, s)
  | .wram => (s.wram.read (addr.toNat - 0xC000), s)
  | .echo => (s.wram.read (addr.toNat - 0xE000), s)
  | .hram => (s.hram.read (addr.toNat - 0xFF80), s)
  | .ifReg => (s.iflag, s)
  | .ieReg => (s.ienable, s)
  | .dmaTrigger => deviceRead .video addr s
  | .unmapped => (Config.openBus, s)
  | .device d => deviceRead d addr s

/-- Byte `i` of the DMA copy whose trigger byte is `v` (R72). -/
def dmaByte (v : Byte) (s : State) (i : Nat) : State :=
  let (x, s1) := routerRead (BitVec.ofNat 16 (v.toNat * 256 + i)) s
  deviceWrite .video (BitVec.ofNat 16 (0xFE00 + i)) x s1

/-- The whole DMA copy, inside the one write that triggers it (R72, D29). -/
def dmaCopy (v : Byte) (s : State) : State := (List.range Config.dmaLen).foldl (dmaByte v) s

/-- The byte written to the DMA register names a legal source (R72, D10). -/
def dmaSourceOk (v : Byte) : Bool := decide (Config.dmaSrcMin ≤ v) && decide (v ≤ Config.dmaSrcMax)

/-- `Router.write` (R63 to R72, R80 to R84, R90). -/
def routerWrite (addr : Word) (v : Byte) (s : State) : Result :=
  match regionOf addr with
  | .romLow => .next (controllerWrite addr v s)
  | .romHigh => .next (controllerWrite addr v s)
  | .extRam => .next (if extRamOpen s then { s with cartRam := s.cartRam.write (extRamIndex s addr) v } else s)
  | .wram => .next { s with wram := s.wram.write (addr.toNat - 0xC000) v }
  | .echo => .next { s with wram := s.wram.write (addr.toNat - 0xE000) v }
  | .hram => .next { s with hram := s.hram.write (addr.toNat - 0xFF80) v }
  | .ifReg => .next { s with iflag := v }
  | .ieReg => .next { s with ienable := v }
  | .dmaTrigger => if dmaSourceOk v then .next (dmaCopy v s) else .fault (.dmaSource v)
  | .unmapped => .next s
  | .device d => .next (deviceWrite d addr v s)

/-! ### The processor's accesses -/

/-- Charge cycles to the step (R38). -/
def addTick (q : Byte) (s : State) : State := { s with tick := s.tick + q }

/-- The extra synchronization quantum (R353). -/
def extraQuantum (s : State) : State := addTick Config.cycleQuantum s

/-- `MemRead(addr, 1)` (R62). -/
def memRead (addr : Word) (s : State) : Byte × State := routerRead addr (addTick Config.cycleQuantum s)

/-- `MemWrite(addr, 1, v)` (R62). -/
def memWrite (addr : Word) (v : Byte) (s : State) : Result := routerWrite addr v (addTick Config.cycleQuantum s)

/-- `MemRead(addr, 2)`: the lower address first (R75). -/
def memRead16 (addr : Word) (s : State) : Word × State :=
  let (lo, s1) := memRead addr s
  let (hi, s2) := memRead (addr + 1) s1
  (joinBytes hi lo, s2)

/-- `MemWrite(addr, 2, v)`: the lower address first (R75). -/
def memWrite16 (addr : Word) (v : Word) (s : State) : Result :=
  andThen (memWrite addr (loByte v) s) fun s1 => memWrite (addr + 1) (hiByte v) s1

/-- `Fetch8()` (R150). -/
def fetch8 (s : State) : Byte × State :=
  let (x, s1) := memRead s.pc s
  (x, s1.setPC (s1.pc + 1))

/-- The opcode byte, then as many operand bytes as the opcode asks for (R149, R150, log 12). -/
def fetchInstr (s : State) : Instr × State :=
  let (op, s1) := fetch8 s
  match opcodeLength op with
  | 1 => (decode op 0 0, s1)
  | 2 =>
    let (b1, s2) := fetch8 s1
    (decode op b1 0, s2)
  | _ =>
    let (b1, s2) := fetch8 s1
    let (b2, s3) := fetch8 s2
    (decode op b1 b2, s3)

/-- `Push16(v)` (R186). -/
def push16 (v : Word) (s : State) : Result :=
  let s1 := s.setSP (s.sp - 2)
  memWrite16 s1.sp v s1

/-- `Pop16()` (R187). -/
def pop16 (s : State) : Word × State :=
  let (v, s1) := memRead16 s.sp s
  (v, s1.setSP (s1.sp + 2))

/-- Append a report (R302). -/
def report (r : Report) (s : State) : State := { s with reports := s.reports ++ [r] }

/-! ### Operand number 6 and the address forms -/

/-- `r8[i]` (R136): a bus read for number 6. -/
def readOperand (o : Operand8) (s : State) : Byte × State :=
  match o with
  | .reg r => (s.reg r, s)
  | .atHl => memRead s.hl s

/-- `r8[i] <- v` (R136): a bus write for number 6. -/
def writeOperand (o : Operand8) (v : Byte) (s : State) : Result :=
  match o with
  | .reg r => .next (s.setReg r v)
  | .atHl => memWrite s.hl v s

/-- The address of a load or store of A (R165 to R178). -/
def addressOf (m : AddrMode) (s : State) : Word :=
  match m with
  | .bc => s.bc
  | .de => s.de
  | .hlInc => s.hl
  | .hlDec => s.hl
  | .abs nn => nn
  | .highC => joinBytes 0xFF s.c
  | .high n => joinBytes 0xFF n

/-- The post-increment or post-decrement of HL (R175 to R178). -/
def stepHL (m : AddrMode) (s : State) : State :=
  match m with
  | .hlInc => s.setHL (s.hl + 1)
  | .hlDec => s.setHL (s.hl - 1)
  | _ => s

/-! ### The router update and interrupts -/

/-- The IF bits a peripheral drives: video 0 and 1, timer 2, joypad 4; bit 3 has no device (R73). -/
def requestMask : Byte := 0x17

/-- `Router.update(cycles)` (R73): the peripherals are told, then their requests are collected into IF.
The cartridge's update does nothing (R91). Which requests arrive is a free value (U13, log 2). -/
def routerUpdate (cycles : Byte) (s : State) : State :=
  { s with
    deviceEvents := s.deviceEvents ++ [.update .video cycles, .update .timer cycles, .update .joypad cycles]
    iflag := s.iflag ||| (Config.deviceRequests s.updates &&& requestMask)
    updates := s.updates + 1 }

/-- Source `i` is requested and enabled (R308, R309). -/
def pendingBit (s : State) (i : Nat) : Bool := s.ienable.getLsbD i && s.iflag.getLsbD i

/-- The lowest-numbered pending source of the five (R309, R311). -/
def pendingSource (s : State) : Option (Fin 5) :=
  if pendingBit s 0 then some 0
  else if pendingBit s 1 then some 1
  else if pendingBit s 2 then some 2
  else if pendingBit s 3 then some 3
  else if pendingBit s 4 then some 4
  else none

/-- The service-routine address of source `i` (R306). -/
def vector (i : Fin 5) : Word := BitVec.ofNat 16 (0x0040 + 8 * i.val)

/-- `Dispatch(i)`, the interrupt entry (R312). The two stack writes go through the router; their cost lies inside
`INT_DISPATCH_CYCLES`, so `tick` is not raised for them (D3). -/
def dispatchInterrupt (i : Fin 5) (s : State) : Result :=
  let s1 := { s with iflag := s.iflag &&& ~~~(bitMask i.val), ime := false, halted := false, sp := s.sp - 2 }
  andThen (routerWrite s1.sp (loByte s1.pc) s1) fun s2 =>
  andThen (routerWrite (s1.sp + 1) (hiByte s1.pc) s2) fun s3 =>
  .next (s3.setPC (vector i))

/-- The return from an interrupt handler: PC from the stack, IME set, nothing else restored (R244, R316). -/
def returnFromInterrupt (s : State) : State :=
  let (v, s1) := pop16 s
  { s1 with pc := v, ime := true }

/-- EI under an `EI_DELAY`: at once, or by the hidden bit; with IME already 1 it changes nothing (R253, U8, log 25). -/
def enableUnder (delay : Fin 2) (s : State) : State :=
  if delay = 0 then { s with ime := true } else if s.ime then s else { s with eiPending := true }

/-- DI under an `EI_DELAY`: it also cancels an EI still to come (R252, U8). -/
def disableUnder (delay : Fin 2) (s : State) : State :=
  if delay = 0 then { s with ime := false } else { s with ime := false, eiPending := false }

/-- The end of the instruction part under an `EI_DELAY`: an EI of the step before, if still to come, takes effect (U8).
`before` is the hidden bit at the start of the step. -/
def settleEnable (delay : Fin 2) (before : Bool) (s : State) : State :=
  if delay = 0 then s else if before && s.eiPending then { s with ime := true, eiPending := false } else s

/-- The interrupt part of a step (R300 part 3, R310, R313; HALT_WAKE_WITHOUT_IME by U7). -/
def interruptPart (s : State) : Result :=
  if s.ime then
    match pendingSource s with
    | some i =>
      andThen (dispatchInterrupt i s) fun s1 =>
      .next (routerUpdate Config.intDispatchCycles { s1 with cycles := s1.cycles + Config.intDispatchCycles.toNat })
    | none => .next s
  else if Config.haltWakeWithoutIme && (pendingSource s).isSome then .next { s with halted := false }
  else .next s

/-- The start of a step: `total` and `tick` are 0, no report yet (R300, log 11). -/
def beginStep (s : State) : State := { s with tick := 0, cycles := 0, reports := [], deviceEvents := [] }

/-- The device part and the interrupt part of a step (R300 parts 2 and 3). -/
def finishStep (s : State) : Result :=
  interruptPart (routerUpdate s.tick { s with cycles := s.tick.toNat })

/-- The instruction part of a halted step: no fetch, PC unchanged (R300, R354). -/
def haltedPart (s : State) : State := addTick Config.haltIdleCycles s

end Sys2Proof.Machine
end

