-- ==== Sys2Proof/Machine/Accumulator.lean ====
section
/-! DEFINITION. Accumulator rotates, decimal adjust, flag instructions and NOP (44_accumulator_misc.md R225 to R233). -/

namespace Sys2Proof.Machine

/-- `NOP` (R225). -/
def noEffect (s : State) : Result := .next s

/-- The four short rotates of A (R226 to R229). -/
def rotateA (o : RotOp) (s : State) : Result :=
  let (r, f) := rotateShort o s.a s.flagC
  .next ((s.setF f).setReg .a r)

/-- `DAA` (R230). -/
def adjustA (s : State) : Result :=
  let (r, f) := daa s.a s.flagN s.flagH s.flagC
  .next ((s.setF f).setReg .a r)

/-- `CPL`: Z and C keep their values (R231). -/
def complementA (s : State) : Result :=
  .next ((s.setF (packFlags s.flagZ true true s.flagC)).setReg .a (s.a ^^^ 0xFF))

/-- `SCF`: Z keeps its value (R232). -/
def setCarry (s : State) : Result := .next (s.setF (packFlags s.flagZ false false true))

/-- `CCF`: Z keeps its value (R233). -/
def complementCarry (s : State) : Result := .next (s.setF (packFlags s.flagZ false false (!s.flagC)))

/-- R225: `NOP`. -/
def execNop (s : State) : Result := noEffect s

/-- R226: `RLCA`. -/
def execRlca (s : State) : Result := rotateA .rlc s

/-- R227: `RRCA`. -/
def execRrca (s : State) : Result := rotateA .rrc s

/-- R228: `RLA`. -/
def execRla (s : State) : Result := rotateA .rl s

/-- R229: `RRA`. -/
def execRra (s : State) : Result := rotateA .rr s

/-- R230: `DAA`. -/
def execDaa (s : State) : Result := adjustA s

/-- R231: `CPL`. -/
def execCpl (s : State) : Result := complementA s

/-- R232: `SCF`. -/
def execScf (s : State) : Result := setCarry s

/-- R233: `CCF`. -/
def execCcf (s : State) : Result := complementCarry s

end Sys2Proof.Machine
end

