-- ==== Sys2Proof/Machine/Alu16.lean ====
section
/-! DEFINITION. The 16-bit arithmetic instructions (43_alu16.md R220 to R224). -/

namespace Sys2Proof.Machine

/-- `ADD HL,rr` (R220). -/
def addHl (p : Pair) (s : State) : Result :=
  let (v, f) := add16 s.hl (s.pair p) s.flagZ
  .next ((s.setF f).setHL v)

/-- `rr[p] <- u16(rr[p] + 1)` (R221). -/
def inc16 (p : Pair) (s : State) : Result := .next (s.setPair p (s.pair p + 1))

/-- `rr[p] <- u16(rr[p] - 1)` (R222). -/
def dec16 (p : Pair) (s : State) : Result := .next (s.setPair p (s.pair p - 1))

/-- `SP <- AddSpE(e)` (R223). -/
def addSp (e : Byte) (s : State) : Result :=
  let (v, f) := addSpE s.sp e
  .next ((s.setF f).setSP v)

/-- R221: `INC BC`. -/
def execIncBc (s : State) : Result := inc16 .bc s

/-- R220: `ADD HL,BC`. -/
def execAddHlBc (s : State) : Result := addHl .bc s

/-- R222: `DEC BC`. -/
def execDecBc (s : State) : Result := dec16 .bc s

/-- R221: `INC DE`. -/
def execIncDe (s : State) : Result := inc16 .de s

/-- R220: `ADD HL,DE`. -/
def execAddHlDe (s : State) : Result := addHl .de s

/-- R222: `DEC DE`. -/
def execDecDe (s : State) : Result := dec16 .de s

/-- R221: `INC HL`. -/
def execIncHl (s : State) : Result := inc16 .hl s

/-- R220: `ADD HL,HL`. -/
def execAddHlHl (s : State) : Result := addHl .hl s

/-- R222: `DEC HL`. -/
def execDecHl (s : State) : Result := dec16 .hl s

/-- R221: `INC SP`. -/
def execIncSp (s : State) : Result := inc16 .sp s

/-- R220: `ADD HL,SP`. -/
def execAddHlSp (s : State) : Result := addHl .sp s

/-- R222: `DEC SP`. -/
def execDecSp (s : State) : Result := dec16 .sp s

/-- R223: `ADD SP,e`. -/
def execAddSpE (e : Byte) (s : State) : Result := addSp e s

end Sys2Proof.Machine
end

