-- ==== Sys2Proof/Machine/Alu8.lean ====
section
/-! DEFINITION. The 8-bit arithmetic and logical instructions (42_alu8.md R190 to R219). -/

namespace Sys2Proof.Machine

/-- One accumulator operation on A and a byte; CP discards the result (R190 to R215). The old flags are read before F is written. -/
def accumulate (o : AluOp) (v : Byte) (s : State) : State :=
  let keep (x : Byte × Byte) : State := (s.setF x.2).setReg .a x.1
  match o with
  | .add => keep (add8 s.a v false)
  | .adc => keep (add8 s.a v s.flagC)
  | .sub => keep (sub8 s.a v false)
  | .sbc => keep (sub8 s.a v s.flagC)
  | .and => keep (and8 s.a v s.flagN)
  | .xor => keep (xor8 s.a v s.flagN)
  | .or => keep (or8 s.a v s.flagN)
  | .cp => s.setF (sub8 s.a v false).2

/-- The register and (HL) forms of the accumulator operations (R192 to R214). -/
def aluOperand (o : AluOp) (src : Operand8) (s : State) : Result :=
  let (v, s1) := readOperand src s
  .next (accumulate o v s1)

/-- The immediate forms of the accumulator operations (R194 to R215). -/
def aluImmediate (o : AluOp) (n : Byte) (s : State) : Result := .next (accumulate o n s)

/-- `INC` of an 8-bit operand (R216, R217). -/
def inc8Operand (x : Operand8) (s : State) : Result :=
  let (v, s1) := readOperand x s
  let (r, f) := inc8 v s1.flagC
  andThen (writeOperand x r s1) fun s2 => .next (s2.setF f)

/-- `DEC` of an 8-bit operand (R218, R219). -/
def dec8Operand (x : Operand8) (s : State) : Result :=
  let (v, s1) := readOperand x s
  let (r, f) := dec8 v s1.flagC
  andThen (writeOperand x r s1) fun s2 => .next (s2.setF f)

/-- R216: `INC B`. -/
def execIncB (s : State) : Result := inc8Operand (.reg .b) s

/-- R218: `DEC B`. -/
def execDecB (s : State) : Result := dec8Operand (.reg .b) s

/-- R216: `INC C`. -/
def execIncC (s : State) : Result := inc8Operand (.reg .c) s

/-- R218: `DEC C`. -/
def execDecC (s : State) : Result := dec8Operand (.reg .c) s

/-- R216: `INC D`. -/
def execIncD (s : State) : Result := inc8Operand (.reg .d) s

/-- R218: `DEC D`. -/
def execDecD (s : State) : Result := dec8Operand (.reg .d) s

/-- R216: `INC E`. -/
def execIncE (s : State) : Result := inc8Operand (.reg .e) s

/-- R218: `DEC E`. -/
def execDecE (s : State) : Result := dec8Operand (.reg .e) s

/-- R216: `INC H`. -/
def execIncH (s : State) : Result := inc8Operand (.reg .h) s

/-- R218: `DEC H`. -/
def execDecH (s : State) : Result := dec8Operand (.reg .h) s

/-- R216: `INC L`. -/
def execIncL (s : State) : Result := inc8Operand (.reg .l) s

/-- R218: `DEC L`. -/
def execDecL (s : State) : Result := dec8Operand (.reg .l) s

/-- R217: `INC (HL)`. -/
def execIncIndHl (s : State) : Result := inc8Operand (.atHl) s

/-- R219: `DEC (HL)`. -/
def execDecIndHl (s : State) : Result := dec8Operand (.atHl) s

/-- R216: `INC A`. -/
def execIncA (s : State) : Result := inc8Operand (.reg .a) s

/-- R218: `DEC A`. -/
def execDecA (s : State) : Result := dec8Operand (.reg .a) s

/-- R192: `ADD A,B`. -/
def execAddAB (s : State) : Result := aluOperand .add (.reg .b) s

/-- R192: `ADD A,C`. -/
def execAddAC (s : State) : Result := aluOperand .add (.reg .c) s

/-- R192: `ADD A,D`. -/
def execAddAD (s : State) : Result := aluOperand .add (.reg .d) s

/-- R192: `ADD A,E`. -/
def execAddAE (s : State) : Result := aluOperand .add (.reg .e) s

/-- R192: `ADD A,H`. -/
def execAddAH (s : State) : Result := aluOperand .add (.reg .h) s

/-- R192: `ADD A,L`. -/
def execAddAL (s : State) : Result := aluOperand .add (.reg .l) s

/-- R193: `ADD A,(HL)`. -/
def execAddAIndHl (s : State) : Result := aluOperand .add (.atHl) s

/-- R192: `ADD A,A`. -/
def execAddAA (s : State) : Result := aluOperand .add (.reg .a) s

/-- R195: `ADC A,B`. -/
def execAdcAB (s : State) : Result := aluOperand .adc (.reg .b) s

/-- R195: `ADC A,C`. -/
def execAdcAC (s : State) : Result := aluOperand .adc (.reg .c) s

/-- R195: `ADC A,D`. -/
def execAdcAD (s : State) : Result := aluOperand .adc (.reg .d) s

/-- R195: `ADC A,E`. -/
def execAdcAE (s : State) : Result := aluOperand .adc (.reg .e) s

/-- R195: `ADC A,H`. -/
def execAdcAH (s : State) : Result := aluOperand .adc (.reg .h) s

/-- R195: `ADC A,L`. -/
def execAdcAL (s : State) : Result := aluOperand .adc (.reg .l) s

/-- R196: `ADC A,(HL)`. -/
def execAdcAIndHl (s : State) : Result := aluOperand .adc (.atHl) s

/-- R195: `ADC A,A`. -/
def execAdcAA (s : State) : Result := aluOperand .adc (.reg .a) s

/-- R198: `SUB B`. -/
def execSubB (s : State) : Result := aluOperand .sub (.reg .b) s

/-- R198: `SUB C`. -/
def execSubC (s : State) : Result := aluOperand .sub (.reg .c) s

/-- R198: `SUB D`. -/
def execSubD (s : State) : Result := aluOperand .sub (.reg .d) s

/-- R198: `SUB E`. -/
def execSubE (s : State) : Result := aluOperand .sub (.reg .e) s

/-- R198: `SUB H`. -/
def execSubH (s : State) : Result := aluOperand .sub (.reg .h) s

/-- R198: `SUB L`. -/
def execSubL (s : State) : Result := aluOperand .sub (.reg .l) s

/-- R199: `SUB (HL)`. -/
def execSubIndHl (s : State) : Result := aluOperand .sub (.atHl) s

/-- R198: `SUB A`. -/
def execSubA (s : State) : Result := aluOperand .sub (.reg .a) s

/-- R201: `SBC A,B`. -/
def execSbcAB (s : State) : Result := aluOperand .sbc (.reg .b) s

/-- R201: `SBC A,C`. -/
def execSbcAC (s : State) : Result := aluOperand .sbc (.reg .c) s

/-- R201: `SBC A,D`. -/
def execSbcAD (s : State) : Result := aluOperand .sbc (.reg .d) s

/-- R201: `SBC A,E`. -/
def execSbcAE (s : State) : Result := aluOperand .sbc (.reg .e) s

/-- R201: `SBC A,H`. -/
def execSbcAH (s : State) : Result := aluOperand .sbc (.reg .h) s

/-- R201: `SBC A,L`. -/
def execSbcAL (s : State) : Result := aluOperand .sbc (.reg .l) s

/-- R202: `SBC A,(HL)`. -/
def execSbcAIndHl (s : State) : Result := aluOperand .sbc (.atHl) s

/-- R201: `SBC A,A`. -/
def execSbcAA (s : State) : Result := aluOperand .sbc (.reg .a) s

/-- R204: `AND B`. -/
def execAndB (s : State) : Result := aluOperand .and (.reg .b) s

/-- R204: `AND C`. -/
def execAndC (s : State) : Result := aluOperand .and (.reg .c) s

/-- R204: `AND D`. -/
def execAndD (s : State) : Result := aluOperand .and (.reg .d) s

/-- R204: `AND E`. -/
def execAndE (s : State) : Result := aluOperand .and (.reg .e) s

/-- R204: `AND H`. -/
def execAndH (s : State) : Result := aluOperand .and (.reg .h) s

/-- R204: `AND L`. -/
def execAndL (s : State) : Result := aluOperand .and (.reg .l) s

/-- R205: `AND (HL)`. -/
def execAndIndHl (s : State) : Result := aluOperand .and (.atHl) s

/-- R204: `AND A`. -/
def execAndA (s : State) : Result := aluOperand .and (.reg .a) s

/-- R207: `XOR B`. -/
def execXorB (s : State) : Result := aluOperand .xor (.reg .b) s

/-- R207: `XOR C`. -/
def execXorC (s : State) : Result := aluOperand .xor (.reg .c) s

/-- R207: `XOR D`. -/
def execXorD (s : State) : Result := aluOperand .xor (.reg .d) s

/-- R207: `XOR E`. -/
def execXorE (s : State) : Result := aluOperand .xor (.reg .e) s

/-- R207: `XOR H`. -/
def execXorH (s : State) : Result := aluOperand .xor (.reg .h) s

/-- R207: `XOR L`. -/
def execXorL (s : State) : Result := aluOperand .xor (.reg .l) s

/-- R208: `XOR (HL)`. -/
def execXorIndHl (s : State) : Result := aluOperand .xor (.atHl) s

/-- R207: `XOR A`. -/
def execXorA (s : State) : Result := aluOperand .xor (.reg .a) s

/-- R210: `OR B`. -/
def execOrB (s : State) : Result := aluOperand .or (.reg .b) s

/-- R210: `OR C`. -/
def execOrC (s : State) : Result := aluOperand .or (.reg .c) s

/-- R210: `OR D`. -/
def execOrD (s : State) : Result := aluOperand .or (.reg .d) s

/-- R210: `OR E`. -/
def execOrE (s : State) : Result := aluOperand .or (.reg .e) s

/-- R210: `OR H`. -/
def execOrH (s : State) : Result := aluOperand .or (.reg .h) s

/-- R210: `OR L`. -/
def execOrL (s : State) : Result := aluOperand .or (.reg .l) s

/-- R211: `OR (HL)`. -/
def execOrIndHl (s : State) : Result := aluOperand .or (.atHl) s

/-- R210: `OR A`. -/
def execOrA (s : State) : Result := aluOperand .or (.reg .a) s

/-- R213: `CP B`. -/
def execCpB (s : State) : Result := aluOperand .cp (.reg .b) s

/-- R213: `CP C`. -/
def execCpC (s : State) : Result := aluOperand .cp (.reg .c) s

/-- R213: `CP D`. -/
def execCpD (s : State) : Result := aluOperand .cp (.reg .d) s

/-- R213: `CP E`. -/
def execCpE (s : State) : Result := aluOperand .cp (.reg .e) s

/-- R213: `CP H`. -/
def execCpH (s : State) : Result := aluOperand .cp (.reg .h) s

/-- R213: `CP L`. -/
def execCpL (s : State) : Result := aluOperand .cp (.reg .l) s

/-- R214: `CP (HL)`. -/
def execCpIndHl (s : State) : Result := aluOperand .cp (.atHl) s

/-- R213: `CP A`. -/
def execCpA (s : State) : Result := aluOperand .cp (.reg .a) s

/-- R194: `ADD A,n`. -/
def execAddAN (n : Byte) (s : State) : Result := aluImmediate .add n s

/-- R197: `ADC A,n`. -/
def execAdcAN (n : Byte) (s : State) : Result := aluImmediate .adc n s

/-- R200: `SUB n`. -/
def execSubN (n : Byte) (s : State) : Result := aluImmediate .sub n s

/-- R203: `SBC A,n`. -/
def execSbcAN (n : Byte) (s : State) : Result := aluImmediate .sbc n s

/-- R206: `AND n`. -/
def execAndN (n : Byte) (s : State) : Result := aluImmediate .and n s

/-- R209: `XOR n`. -/
def execXorN (n : Byte) (s : State) : Result := aluImmediate .xor n s

/-- R212: `OR n`. -/
def execOrN (n : Byte) (s : State) : Result := aluImmediate .or n s

/-- R215: `CP n`. -/
def execCpN (n : Byte) (s : State) : Result := aluImmediate .cp n s

end Sys2Proof.Machine
end

