-- ==== Sys2Proof/Machine/Control.lean ====
section
/-! DEFINITION. Jumps, calls, returns and restarts (45_control.md R235 to R246). PC is already past the instruction (R28). -/

namespace Sys2Proof.Machine

/-- `PC <- target ; tick <- tick + Q` (R235, R353). -/
def jumpTo (nn : Word) (s : State) : Result := .next (extraQuantum (s.setPC nn))

/-- `JP cc,nn` (R236). -/
def jumpIf (cc : Cond) (nn : Word) (s : State) : Result := if s.cond cc then jumpTo nn s else .next s

/-- `JP HL` (R237). -/
def jumpHl (s : State) : Result := jumpTo s.hl s

/-- `JR e`: relative to the address after the instruction (R238). -/
def jumpRel (e : Byte) (s : State) : Result := jumpTo (s.pc + sext8 e) s

/-- `JR cc,e` (R239). -/
def jumpRelIf (cc : Cond) (e : Byte) (s : State) : Result := if s.cond cc then jumpRel e s else .next s

/-- `Push16(PC) ; PC <- nn ; tick <- tick + Q` (R240). -/
def callTo (nn : Word) (s : State) : Result := andThen (push16 s.pc s) fun s1 => jumpTo nn s1

/-- `CALL cc,nn` (R241). -/
def callIf (cc : Cond) (nn : Word) (s : State) : Result := if s.cond cc then callTo nn s else .next s

/-- `PC <- Pop16() ; tick <- tick + Q` (R242). -/
def returnTo (s : State) : Result :=
  let (v, s1) := pop16 s
  jumpTo v s1

/-- `RET cc` (R243). -/
def returnIf (cc : Cond) (s : State) : Result := if s.cond cc then returnTo s else .next s

/-- `RETI` (R244). -/
def returnInterrupt (s : State) : Result := .next (extraQuantum (returnFromInterrupt s))

/-- `Push16(PC) ; PC <- 8 * t ; tick <- tick + Q` (R245, R140). -/
def restart (t : Fin 8) (s : State) : Result := callTo (BitVec.ofNat 16 (8 * t.val)) s

/-- R238: `JR e`. -/
def execJrE (e : Byte) (s : State) : Result := jumpRel e s

/-- R239: `JR NZ,e`. -/
def execJrNzE (e : Byte) (s : State) : Result := jumpRelIf .nz e s

/-- R239: `JR Z,e`. -/
def execJrZE (e : Byte) (s : State) : Result := jumpRelIf .z e s

/-- R239: `JR NC,e`. -/
def execJrNcE (e : Byte) (s : State) : Result := jumpRelIf .nc e s

/-- R239: `JR C,e`. -/
def execJrCE (e : Byte) (s : State) : Result := jumpRelIf .c e s

/-- R243: `RET NZ`. -/
def execRetNz (s : State) : Result := returnIf .nz s

/-- R236: `JP NZ,nn`. -/
def execJpNzNn (nn : Word) (s : State) : Result := jumpIf .nz nn s

/-- R235: `JP nn`. -/
def execJpNn (nn : Word) (s : State) : Result := jumpTo nn s

/-- R241: `CALL NZ,nn`. -/
def execCallNzNn (nn : Word) (s : State) : Result := callIf .nz nn s

/-- R245: `RST 0x00`. -/
def execRst00 (s : State) : Result := restart 0 s

/-- R243: `RET Z`. -/
def execRetZ (s : State) : Result := returnIf .z s

/-- R242: `RET`. -/
def execRet (s : State) : Result := returnTo s

/-- R236: `JP Z,nn`. -/
def execJpZNn (nn : Word) (s : State) : Result := jumpIf .z nn s

/-- R241: `CALL Z,nn`. -/
def execCallZNn (nn : Word) (s : State) : Result := callIf .z nn s

/-- R240: `CALL nn`. -/
def execCallNn (nn : Word) (s : State) : Result := callTo nn s

/-- R245: `RST 0x08`. -/
def execRst08 (s : State) : Result := restart 1 s

/-- R243: `RET NC`. -/
def execRetNc (s : State) : Result := returnIf .nc s

/-- R236: `JP NC,nn`. -/
def execJpNcNn (nn : Word) (s : State) : Result := jumpIf .nc nn s

/-- R241: `CALL NC,nn`. -/
def execCallNcNn (nn : Word) (s : State) : Result := callIf .nc nn s

/-- R245: `RST 0x10`. -/
def execRst10 (s : State) : Result := restart 2 s

/-- R243: `RET C`. -/
def execRetC (s : State) : Result := returnIf .c s

/-- R244: `RETI`. -/
def execReti (s : State) : Result := returnInterrupt s

/-- R236: `JP C,nn`. -/
def execJpCNn (nn : Word) (s : State) : Result := jumpIf .c nn s

/-- R241: `CALL C,nn`. -/
def execCallCNn (nn : Word) (s : State) : Result := callIf .c nn s

/-- R245: `RST 0x18`. -/
def execRst18 (s : State) : Result := restart 3 s

/-- R245: `RST 0x20`. -/
def execRst20 (s : State) : Result := restart 4 s

/-- R237: `JP HL`. -/
def execJpHl (s : State) : Result := jumpHl s

/-- R245: `RST 0x28`. -/
def execRst28 (s : State) : Result := restart 5 s

/-- R245: `RST 0x30`. -/
def execRst30 (s : State) : Result := restart 6 s

/-- R245: `RST 0x38`. -/
def execRst38 (s : State) : Result := restart 7 s

end Sys2Proof.Machine
end

