-- ==== Sys2Proof/Machine/Extended.lean ====
section
/-! DEFINITION. The extended opcode space and the prefix (47_cb_prefixed.md R260 to R282; 46_system.md R255). -/

namespace Sys2Proof.Machine

/-- A rotate, shift or swap of an operand (R260 to R276). -/
def rotateOperand (o : RotOp) (x : Operand8) (s : State) : Result :=
  let (v, s1) := readOperand x s
  let (r, f) := rotateFlags o v s1.flagC
  andThen (writeOperand x r s1) fun s2 => .next (s2.setF f)

/-- `BIT b`: flags only, no write (R277, R278). -/
def testBit (b : Fin 8) (x : Operand8) (s : State) : Result :=
  let (v, s1) := readOperand x s
  .next (s1.setF (bitFlags b.val v s1.flagC))

/-- `RES b` (R279, R280). -/
def resetBit (b : Fin 8) (x : Operand8) (s : State) : Result :=
  let (v, s1) := readOperand x s
  writeOperand x (v &&& ~~~(bitMask b.val)) s1

/-- `SET b` (R281, R282). -/
def setBit (b : Fin 8) (x : Operand8) (s : State) : Result :=
  let (v, s1) := readOperand x s
  writeOperand x (v ||| bitMask b.val) s1

/-- The row PREFIX CB: the second byte selects operation and operand by its fields x, y, z (R255, R131, R144). -/
def extendedByte (op2 : Byte) (s : State) : Result :=
  let x := op2.toNat / 64
  let y : Fin 8 := ⟨op2.toNat / 8 % 8, Nat.mod_lt _ (by decide)⟩
  let z := operand8OfIndex (op2.toNat % 8)
  if x = 0 then rotateOperand (rotOpOfIndex y.val) z s
  else if x = 1 then testBit y z s
  else if x = 2 then resetBit y z s
  else setBit y z s

/-- R255: `PREFIX CB`. -/
def execPrefixCb (op2 : Byte) (s : State) : Result := extendedByte op2 s

/-- R261: `RLC B`. -/
def execRlcB (s : State) : Result := rotateOperand .rlc (.reg .b) s

/-- R261: `RLC C`. -/
def execRlcC (s : State) : Result := rotateOperand .rlc (.reg .c) s

/-- R261: `RLC D`. -/
def execRlcD (s : State) : Result := rotateOperand .rlc (.reg .d) s

/-- R261: `RLC E`. -/
def execRlcE (s : State) : Result := rotateOperand .rlc (.reg .e) s

/-- R261: `RLC H`. -/
def execRlcH (s : State) : Result := rotateOperand .rlc (.reg .h) s

/-- R261: `RLC L`. -/
def execRlcL (s : State) : Result := rotateOperand .rlc (.reg .l) s

/-- R262: `RLC (HL)`. -/
def execRlcIndHl (s : State) : Result := rotateOperand .rlc (.atHl) s

/-- R261: `RLC A`. -/
def execRlcA (s : State) : Result := rotateOperand .rlc (.reg .a) s

/-- R263: `RRC B`. -/
def execRrcB (s : State) : Result := rotateOperand .rrc (.reg .b) s

/-- R263: `RRC C`. -/
def execRrcC (s : State) : Result := rotateOperand .rrc (.reg .c) s

/-- R263: `RRC D`. -/
def execRrcD (s : State) : Result := rotateOperand .rrc (.reg .d) s

/-- R263: `RRC E`. -/
def execRrcE (s : State) : Result := rotateOperand .rrc (.reg .e) s

/-- R263: `RRC H`. -/
def execRrcH (s : State) : Result := rotateOperand .rrc (.reg .h) s

/-- R263: `RRC L`. -/
def execRrcL (s : State) : Result := rotateOperand .rrc (.reg .l) s

/-- R264: `RRC (HL)`. -/
def execRrcIndHl (s : State) : Result := rotateOperand .rrc (.atHl) s

/-- R263: `RRC A`. -/
def execRrcA (s : State) : Result := rotateOperand .rrc (.reg .a) s

/-- R265: `RL B`. -/
def execRlB (s : State) : Result := rotateOperand .rl (.reg .b) s

/-- R265: `RL C`. -/
def execRlC (s : State) : Result := rotateOperand .rl (.reg .c) s

/-- R265: `RL D`. -/
def execRlD (s : State) : Result := rotateOperand .rl (.reg .d) s

/-- R265: `RL E`. -/
def execRlE (s : State) : Result := rotateOperand .rl (.reg .e) s

/-- R265: `RL H`. -/
def execRlH (s : State) : Result := rotateOperand .rl (.reg .h) s

/-- R265: `RL L`. -/
def execRlL (s : State) : Result := rotateOperand .rl (.reg .l) s

/-- R266: `RL (HL)`. -/
def execRlIndHl (s : State) : Result := rotateOperand .rl (.atHl) s

/-- R265: `RL A`. -/
def execRlA (s : State) : Result := rotateOperand .rl (.reg .a) s

/-- R267: `RR B`. -/
def execRrB (s : State) : Result := rotateOperand .rr (.reg .b) s

/-- R267: `RR C`. -/
def execRrC (s : State) : Result := rotateOperand .rr (.reg .c) s

/-- R267: `RR D`. -/
def execRrD (s : State) : Result := rotateOperand .rr (.reg .d) s

/-- R267: `RR E`. -/
def execRrE (s : State) : Result := rotateOperand .rr (.reg .e) s

/-- R267: `RR H`. -/
def execRrH (s : State) : Result := rotateOperand .rr (.reg .h) s

/-- R267: `RR L`. -/
def execRrL (s : State) : Result := rotateOperand .rr (.reg .l) s

/-- R268: `RR (HL)`. -/
def execRrIndHl (s : State) : Result := rotateOperand .rr (.atHl) s

/-- R267: `RR A`. -/
def execRrA (s : State) : Result := rotateOperand .rr (.reg .a) s

/-- R269: `SLA B`. -/
def execSlaB (s : State) : Result := rotateOperand .sla (.reg .b) s

/-- R269: `SLA C`. -/
def execSlaC (s : State) : Result := rotateOperand .sla (.reg .c) s

/-- R269: `SLA D`. -/
def execSlaD (s : State) : Result := rotateOperand .sla (.reg .d) s

/-- R269: `SLA E`. -/
def execSlaE (s : State) : Result := rotateOperand .sla (.reg .e) s

/-- R269: `SLA H`. -/
def execSlaH (s : State) : Result := rotateOperand .sla (.reg .h) s

/-- R269: `SLA L`. -/
def execSlaL (s : State) : Result := rotateOperand .sla (.reg .l) s

/-- R270: `SLA (HL)`. -/
def execSlaIndHl (s : State) : Result := rotateOperand .sla (.atHl) s

/-- R269: `SLA A`. -/
def execSlaA (s : State) : Result := rotateOperand .sla (.reg .a) s

/-- R271: `SRA B`. -/
def execSraB (s : State) : Result := rotateOperand .sra (.reg .b) s

/-- R271: `SRA C`. -/
def execSraC (s : State) : Result := rotateOperand .sra (.reg .c) s

/-- R271: `SRA D`. -/
def execSraD (s : State) : Result := rotateOperand .sra (.reg .d) s

/-- R271: `SRA E`. -/
def execSraE (s : State) : Result := rotateOperand .sra (.reg .e) s

/-- R271: `SRA H`. -/
def execSraH (s : State) : Result := rotateOperand .sra (.reg .h) s

/-- R271: `SRA L`. -/
def execSraL (s : State) : Result := rotateOperand .sra (.reg .l) s

/-- R272: `SRA (HL)`. -/
def execSraIndHl (s : State) : Result := rotateOperand .sra (.atHl) s

/-- R271: `SRA A`. -/
def execSraA (s : State) : Result := rotateOperand .sra (.reg .a) s

/-- R273: `SWAP B`. -/
def execSwapB (s : State) : Result := rotateOperand .swap (.reg .b) s

/-- R273: `SWAP C`. -/
def execSwapC (s : State) : Result := rotateOperand .swap (.reg .c) s

/-- R273: `SWAP D`. -/
def execSwapD (s : State) : Result := rotateOperand .swap (.reg .d) s

/-- R273: `SWAP E`. -/
def execSwapE (s : State) : Result := rotateOperand .swap (.reg .e) s

/-- R273: `SWAP H`. -/
def execSwapH (s : State) : Result := rotateOperand .swap (.reg .h) s

/-- R273: `SWAP L`. -/
def execSwapL (s : State) : Result := rotateOperand .swap (.reg .l) s

/-- R274: `SWAP (HL)`. -/
def execSwapIndHl (s : State) : Result := rotateOperand .swap (.atHl) s

/-- R273: `SWAP A`. -/
def execSwapA (s : State) : Result := rotateOperand .swap (.reg .a) s

/-- R275: `SRL B`. -/
def execSrlB (s : State) : Result := rotateOperand .srl (.reg .b) s

/-- R275: `SRL C`. -/
def execSrlC (s : State) : Result := rotateOperand .srl (.reg .c) s

/-- R275: `SRL D`. -/
def execSrlD (s : State) : Result := rotateOperand .srl (.reg .d) s

/-- R275: `SRL E`. -/
def execSrlE (s : State) : Result := rotateOperand .srl (.reg .e) s

/-- R275: `SRL H`. -/
def execSrlH (s : State) : Result := rotateOperand .srl (.reg .h) s

/-- R275: `SRL L`. -/
def execSrlL (s : State) : Result := rotateOperand .srl (.reg .l) s

/-- R276: `SRL (HL)`. -/
def execSrlIndHl (s : State) : Result := rotateOperand .srl (.atHl) s

/-- R275: `SRL A`. -/
def execSrlA (s : State) : Result := rotateOperand .srl (.reg .a) s

/-- R277: `BIT 0,B`. -/
def execBit0B (s : State) : Result := testBit 0 (.reg .b) s

/-- R277: `BIT 0,C`. -/
def execBit0C (s : State) : Result := testBit 0 (.reg .c) s

/-- R277: `BIT 0,D`. -/
def execBit0D (s : State) : Result := testBit 0 (.reg .d) s

/-- R277: `BIT 0,E`. -/
def execBit0E (s : State) : Result := testBit 0 (.reg .e) s

/-- R277: `BIT 0,H`. -/
def execBit0H (s : State) : Result := testBit 0 (.reg .h) s

/-- R277: `BIT 0,L`. -/
def execBit0L (s : State) : Result := testBit 0 (.reg .l) s

/-- R278: `BIT 0,(HL)`. -/
def execBit0IndHl (s : State) : Result := testBit 0 (.atHl) s

/-- R277: `BIT 0,A`. -/
def execBit0A (s : State) : Result := testBit 0 (.reg .a) s

/-- R277: `BIT 1,B`. -/
def execBit1B (s : State) : Result := testBit 1 (.reg .b) s

/-- R277: `BIT 1,C`. -/
def execBit1C (s : State) : Result := testBit 1 (.reg .c) s

/-- R277: `BIT 1,D`. -/
def execBit1D (s : State) : Result := testBit 1 (.reg .d) s

/-- R277: `BIT 1,E`. -/
def execBit1E (s : State) : Result := testBit 1 (.reg .e) s

/-- R277: `BIT 1,H`. -/
def execBit1H (s : State) : Result := testBit 1 (.reg .h) s

/-- R277: `BIT 1,L`. -/
def execBit1L (s : State) : Result := testBit 1 (.reg .l) s

/-- R278: `BIT 1,(HL)`. -/
def execBit1IndHl (s : State) : Result := testBit 1 (.atHl) s

/-- R277: `BIT 1,A`. -/
def execBit1A (s : State) : Result := testBit 1 (.reg .a) s

/-- R277: `BIT 2,B`. -/
def execBit2B (s : State) : Result := testBit 2 (.reg .b) s

/-- R277: `BIT 2,C`. -/
def execBit2C (s : State) : Result := testBit 2 (.reg .c) s

/-- R277: `BIT 2,D`. -/
def execBit2D (s : State) : Result := testBit 2 (.reg .d) s

/-- R277: `BIT 2,E`. -/
def execBit2E (s : State) : Result := testBit 2 (.reg .e) s

/-- R277: `BIT 2,H`. -/
def execBit2H (s : State) : Result := testBit 2 (.reg .h) s

/-- R277: `BIT 2,L`. -/
def execBit2L (s : State) : Result := testBit 2 (.reg .l) s

/-- R278: `BIT 2,(HL)`. -/
def execBit2IndHl (s : State) : Result := testBit 2 (.atHl) s

/-- R277: `BIT 2,A`. -/
def execBit2A (s : State) : Result := testBit 2 (.reg .a) s

/-- R277: `BIT 3,B`. -/
def execBit3B (s : State) : Result := testBit 3 (.reg .b) s

/-- R277: `BIT 3,C`. -/
def execBit3C (s : State) : Result := testBit 3 (.reg .c) s

/-- R277: `BIT 3,D`. -/
def execBit3D (s : State) : Result := testBit 3 (.reg .d) s

/-- R277: `BIT 3,E`. -/
def execBit3E (s : State) : Result := testBit 3 (.reg .e) s

/-- R277: `BIT 3,H`. -/
def execBit3H (s : State) : Result := testBit 3 (.reg .h) s

/-- R277: `BIT 3,L`. -/
def execBit3L (s : State) : Result := testBit 3 (.reg .l) s

/-- R278: `BIT 3,(HL)`. -/
def execBit3IndHl (s : State) : Result := testBit 3 (.atHl) s

/-- R277: `BIT 3,A`. -/
def execBit3A (s : State) : Result := testBit 3 (.reg .a) s

/-- R277: `BIT 4,B`. -/
def execBit4B (s : State) : Result := testBit 4 (.reg .b) s

/-- R277: `BIT 4,C`. -/
def execBit4C (s : State) : Result := testBit 4 (.reg .c) s

/-- R277: `BIT 4,D`. -/
def execBit4D (s : State) : Result := testBit 4 (.reg .d) s

/-- R277: `BIT 4,E`. -/
def execBit4E (s : State) : Result := testBit 4 (.reg .e) s

/-- R277: `BIT 4,H`. -/
def execBit4H (s : State) : Result := testBit 4 (.reg .h) s

/-- R277: `BIT 4,L`. -/
def execBit4L (s : State) : Result := testBit 4 (.reg .l) s

/-- R278: `BIT 4,(HL)`. -/
def execBit4IndHl (s : State) : Result := testBit 4 (.atHl) s

/-- R277: `BIT 4,A`. -/
def execBit4A (s : State) : Result := testBit 4 (.reg .a) s

/-- R277: `BIT 5,B`. -/
def execBit5B (s : State) : Result := testBit 5 (.reg .b) s

/-- R277: `BIT 5,C`. -/
def execBit5C (s : State) : Result := testBit 5 (.reg .c) s

/-- R277: `BIT 5,D`. -/
def execBit5D (s : State) : Result := testBit 5 (.reg .d) s

/-- R277: `BIT 5,E`. -/
def execBit5E (s : State) : Result := testBit 5 (.reg .e) s

/-- R277: `BIT 5,H`. -/
def execBit5H (s : State) : Result := testBit 5 (.reg .h) s

/-- R277: `BIT 5,L`. -/
def execBit5L (s : State) : Result := testBit 5 (.reg .l) s

/-- R278: `BIT 5,(HL)`. -/
def execBit5IndHl (s : State) : Result := testBit 5 (.atHl) s

/-- R277: `BIT 5,A`. -/
def execBit5A (s : State) : Result := testBit 5 (.reg .a) s

/-- R277: `BIT 6,B`. -/
def execBit6B (s : State) : Result := testBit 6 (.reg .b) s

/-- R277: `BIT 6,C`. -/
def execBit6C (s : State) : Result := testBit 6 (.reg .c) s

/-- R277: `BIT 6,D`. -/
def execBit6D (s : State) : Result := testBit 6 (.reg .d) s

/-- R277: `BIT 6,E`. -/
def execBit6E (s : State) : Result := testBit 6 (.reg .e) s

/-- R277: `BIT 6,H`. -/
def execBit6H (s : State) : Result := testBit 6 (.reg .h) s

/-- R277: `BIT 6,L`. -/
def execBit6L (s : State) : Result := testBit 6 (.reg .l) s

/-- R278: `BIT 6,(HL)`. -/
def execBit6IndHl (s : State) : Result := testBit 6 (.atHl) s

/-- R277: `BIT 6,A`. -/
def execBit6A (s : State) : Result := testBit 6 (.reg .a) s

/-- R277: `BIT 7,B`. -/
def execBit7B (s : State) : Result := testBit 7 (.reg .b) s

/-- R277: `BIT 7,C`. -/
def execBit7C (s : State) : Result := testBit 7 (.reg .c) s

/-- R277: `BIT 7,D`. -/
def execBit7D (s : State) : Result := testBit 7 (.reg .d) s

/-- R277: `BIT 7,E`. -/
def execBit7E (s : State) : Result := testBit 7 (.reg .e) s

/-- R277: `BIT 7,H`. -/
def execBit7H (s : State) : Result := testBit 7 (.reg .h) s

/-- R277: `BIT 7,L`. -/
def execBit7L (s : State) : Result := testBit 7 (.reg .l) s

/-- R278: `BIT 7,(HL)`. -/
def execBit7IndHl (s : State) : Result := testBit 7 (.atHl) s

/-- R277: `BIT 7,A`. -/
def execBit7A (s : State) : Result := testBit 7 (.reg .a) s

/-- R279: `RES 0,B`. -/
def execRes0B (s : State) : Result := resetBit 0 (.reg .b) s

/-- R279: `RES 0,C`. -/
def execRes0C (s : State) : Result := resetBit 0 (.reg .c) s

/-- R279: `RES 0,D`. -/
def execRes0D (s : State) : Result := resetBit 0 (.reg .d) s

/-- R279: `RES 0,E`. -/
def execRes0E (s : State) : Result := resetBit 0 (.reg .e) s

/-- R279: `RES 0,H`. -/
def execRes0H (s : State) : Result := resetBit 0 (.reg .h) s

/-- R279: `RES 0,L`. -/
def execRes0L (s : State) : Result := resetBit 0 (.reg .l) s

/-- R280: `RES 0,(HL)`. -/
def execRes0IndHl (s : State) : Result := resetBit 0 (.atHl) s

/-- R279: `RES 0,A`. -/
def execRes0A (s : State) : Result := resetBit 0 (.reg .a) s

/-- R279: `RES 1,B`. -/
def execRes1B (s : State) : Result := resetBit 1 (.reg .b) s

/-- R279: `RES 1,C`. -/
def execRes1C (s : State) : Result := resetBit 1 (.reg .c) s

/-- R279: `RES 1,D`. -/
def execRes1D (s : State) : Result := resetBit 1 (.reg .d) s

/-- R279: `RES 1,E`. -/
def execRes1E (s : State) : Result := resetBit 1 (.reg .e) s

/-- R279: `RES 1,H`. -/
def execRes1H (s : State) : Result := resetBit 1 (.reg .h) s

/-- R279: `RES 1,L`. -/
def execRes1L (s : State) : Result := resetBit 1 (.reg .l) s

/-- R280: `RES 1,(HL)`. -/
def execRes1IndHl (s : State) : Result := resetBit 1 (.atHl) s

/-- R279: `RES 1,A`. -/
def execRes1A (s : State) : Result := resetBit 1 (.reg .a) s

/-- R279: `RES 2,B`. -/
def execRes2B (s : State) : Result := resetBit 2 (.reg .b) s

/-- R279: `RES 2,C`. -/
def execRes2C (s : State) : Result := resetBit 2 (.reg .c) s

/-- R279: `RES 2,D`. -/
def execRes2D (s : State) : Result := resetBit 2 (.reg .d) s

/-- R279: `RES 2,E`. -/
def execRes2E (s : State) : Result := resetBit 2 (.reg .e) s

/-- R279: `RES 2,H`. -/
def execRes2H (s : State) : Result := resetBit 2 (.reg .h) s

/-- R279: `RES 2,L`. -/
def execRes2L (s : State) : Result := resetBit 2 (.reg .l) s

/-- R280: `RES 2,(HL)`. -/
def execRes2IndHl (s : State) : Result := resetBit 2 (.atHl) s

/-- R279: `RES 2,A`. -/
def execRes2A (s : State) : Result := resetBit 2 (.reg .a) s

/-- R279: `RES 3,B`. -/
def execRes3B (s : State) : Result := resetBit 3 (.reg .b) s

/-- R279: `RES 3,C`. -/
def execRes3C (s : State) : Result := resetBit 3 (.reg .c) s

/-- R279: `RES 3,D`. -/
def execRes3D (s : State) : Result := resetBit 3 (.reg .d) s

/-- R279: `RES 3,E`. -/
def execRes3E (s : State) : Result := resetBit 3 (.reg .e) s

/-- R279: `RES 3,H`. -/
def execRes3H (s : State) : Result := resetBit 3 (.reg .h) s

/-- R279: `RES 3,L`. -/
def execRes3L (s : State) : Result := resetBit 3 (.reg .l) s

/-- R280: `RES 3,(HL)`. -/
def execRes3IndHl (s : State) : Result := resetBit 3 (.atHl) s

/-- R279: `RES 3,A`. -/
def execRes3A (s : State) : Result := resetBit 3 (.reg .a) s

/-- R279: `RES 4,B`. -/
def execRes4B (s : State) : Result := resetBit 4 (.reg .b) s

/-- R279: `RES 4,C`. -/
def execRes4C (s : State) : Result := resetBit 4 (.reg .c) s

/-- R279: `RES 4,D`. -/
def execRes4D (s : State) : Result := resetBit 4 (.reg .d) s

/-- R279: `RES 4,E`. -/
def execRes4E (s : State) : Result := resetBit 4 (.reg .e) s

/-- R279: `RES 4,H`. -/
def execRes4H (s : State) : Result := resetBit 4 (.reg .h) s

/-- R279: `RES 4,L`. -/
def execRes4L (s : State) : Result := resetBit 4 (.reg .l) s

/-- R280: `RES 4,(HL)`. -/
def execRes4IndHl (s : State) : Result := resetBit 4 (.atHl) s

/-- R279: `RES 4,A`. -/
def execRes4A (s : State) : Result := resetBit 4 (.reg .a) s

/-- R279: `RES 5,B`. -/
def execRes5B (s : State) : Result := resetBit 5 (.reg .b) s

/-- R279: `RES 5,C`. -/
def execRes5C (s : State) : Result := resetBit 5 (.reg .c) s

/-- R279: `RES 5,D`. -/
def execRes5D (s : State) : Result := resetBit 5 (.reg .d) s

/-- R279: `RES 5,E`. -/
def execRes5E (s : State) : Result := resetBit 5 (.reg .e) s

/-- R279: `RES 5,H`. -/
def execRes5H (s : State) : Result := resetBit 5 (.reg .h) s

/-- R279: `RES 5,L`. -/
def execRes5L (s : State) : Result := resetBit 5 (.reg .l) s

/-- R280: `RES 5,(HL)`. -/
def execRes5IndHl (s : State) : Result := resetBit 5 (.atHl) s

/-- R279: `RES 5,A`. -/
def execRes5A (s : State) : Result := resetBit 5 (.reg .a) s

/-- R279: `RES 6,B`. -/
def execRes6B (s : State) : Result := resetBit 6 (.reg .b) s

/-- R279: `RES 6,C`. -/
def execRes6C (s : State) : Result := resetBit 6 (.reg .c) s

/-- R279: `RES 6,D`. -/
def execRes6D (s : State) : Result := resetBit 6 (.reg .d) s

/-- R279: `RES 6,E`. -/
def execRes6E (s : State) : Result := resetBit 6 (.reg .e) s

/-- R279: `RES 6,H`. -/
def execRes6H (s : State) : Result := resetBit 6 (.reg .h) s

/-- R279: `RES 6,L`. -/
def execRes6L (s : State) : Result := resetBit 6 (.reg .l) s

/-- R280: `RES 6,(HL)`. -/
def execRes6IndHl (s : State) : Result := resetBit 6 (.atHl) s

/-- R279: `RES 6,A`. -/
def execRes6A (s : State) : Result := resetBit 6 (.reg .a) s

/-- R279: `RES 7,B`. -/
def execRes7B (s : State) : Result := resetBit 7 (.reg .b) s

/-- R279: `RES 7,C`. -/
def execRes7C (s : State) : Result := resetBit 7 (.reg .c) s

/-- R279: `RES 7,D`. -/
def execRes7D (s : State) : Result := resetBit 7 (.reg .d) s

/-- R279: `RES 7,E`. -/
def execRes7E (s : State) : Result := resetBit 7 (.reg .e) s

/-- R279: `RES 7,H`. -/
def execRes7H (s : State) : Result := resetBit 7 (.reg .h) s

/-- R279: `RES 7,L`. -/
def execRes7L (s : State) : Result := resetBit 7 (.reg .l) s

/-- R280: `RES 7,(HL)`. -/
def execRes7IndHl (s : State) : Result := resetBit 7 (.atHl) s

/-- R279: `RES 7,A`. -/
def execRes7A (s : State) : Result := resetBit 7 (.reg .a) s

/-- R281: `SET 0,B`. -/
def execSet0B (s : State) : Result := setBit 0 (.reg .b) s

/-- R281: `SET 0,C`. -/
def execSet0C (s : State) : Result := setBit 0 (.reg .c) s

/-- R281: `SET 0,D`. -/
def execSet0D (s : State) : Result := setBit 0 (.reg .d) s

/-- R281: `SET 0,E`. -/
def execSet0E (s : State) : Result := setBit 0 (.reg .e) s

/-- R281: `SET 0,H`. -/
def execSet0H (s : State) : Result := setBit 0 (.reg .h) s

/-- R281: `SET 0,L`. -/
def execSet0L (s : State) : Result := setBit 0 (.reg .l) s

/-- R282: `SET 0,(HL)`. -/
def execSet0IndHl (s : State) : Result := setBit 0 (.atHl) s

/-- R281: `SET 0,A`. -/
def execSet0A (s : State) : Result := setBit 0 (.reg .a) s

/-- R281: `SET 1,B`. -/
def execSet1B (s : State) : Result := setBit 1 (.reg .b) s

/-- R281: `SET 1,C`. -/
def execSet1C (s : State) : Result := setBit 1 (.reg .c) s

/-- R281: `SET 1,D`. -/
def execSet1D (s : State) : Result := setBit 1 (.reg .d) s

/-- R281: `SET 1,E`. -/
def execSet1E (s : State) : Result := setBit 1 (.reg .e) s

/-- R281: `SET 1,H`. -/
def execSet1H (s : State) : Result := setBit 1 (.reg .h) s

/-- R281: `SET 1,L`. -/
def execSet1L (s : State) : Result := setBit 1 (.reg .l) s

/-- R282: `SET 1,(HL)`. -/
def execSet1IndHl (s : State) : Result := setBit 1 (.atHl) s

/-- R281: `SET 1,A`. -/
def execSet1A (s : State) : Result := setBit 1 (.reg .a) s

/-- R281: `SET 2,B`. -/
def execSet2B (s : State) : Result := setBit 2 (.reg .b) s

/-- R281: `SET 2,C`. -/
def execSet2C (s : State) : Result := setBit 2 (.reg .c) s

/-- R281: `SET 2,D`. -/
def execSet2D (s : State) : Result := setBit 2 (.reg .d) s

/-- R281: `SET 2,E`. -/
def execSet2E (s : State) : Result := setBit 2 (.reg .e) s

/-- R281: `SET 2,H`. -/
def execSet2H (s : State) : Result := setBit 2 (.reg .h) s

/-- R281: `SET 2,L`. -/
def execSet2L (s : State) : Result := setBit 2 (.reg .l) s

/-- R282: `SET 2,(HL)`. -/
def execSet2IndHl (s : State) : Result := setBit 2 (.atHl) s

/-- R281: `SET 2,A`. -/
def execSet2A (s : State) : Result := setBit 2 (.reg .a) s

/-- R281: `SET 3,B`. -/
def execSet3B (s : State) : Result := setBit 3 (.reg .b) s

/-- R281: `SET 3,C`. -/
def execSet3C (s : State) : Result := setBit 3 (.reg .c) s

/-- R281: `SET 3,D`. -/
def execSet3D (s : State) : Result := setBit 3 (.reg .d) s

/-- R281: `SET 3,E`. -/
def execSet3E (s : State) : Result := setBit 3 (.reg .e) s

/-- R281: `SET 3,H`. -/
def execSet3H (s : State) : Result := setBit 3 (.reg .h) s

/-- R281: `SET 3,L`. -/
def execSet3L (s : State) : Result := setBit 3 (.reg .l) s

/-- R282: `SET 3,(HL)`. -/
def execSet3IndHl (s : State) : Result := setBit 3 (.atHl) s

/-- R281: `SET 3,A`. -/
def execSet3A (s : State) : Result := setBit 3 (.reg .a) s

/-- R281: `SET 4,B`. -/
def execSet4B (s : State) : Result := setBit 4 (.reg .b) s

/-- R281: `SET 4,C`. -/
def execSet4C (s : State) : Result := setBit 4 (.reg .c) s

/-- R281: `SET 4,D`. -/
def execSet4D (s : State) : Result := setBit 4 (.reg .d) s

/-- R281: `SET 4,E`. -/
def execSet4E (s : State) : Result := setBit 4 (.reg .e) s

/-- R281: `SET 4,H`. -/
def execSet4H (s : State) : Result := setBit 4 (.reg .h) s

/-- R281: `SET 4,L`. -/
def execSet4L (s : State) : Result := setBit 4 (.reg .l) s

/-- R282: `SET 4,(HL)`. -/
def execSet4IndHl (s : State) : Result := setBit 4 (.atHl) s

/-- R281: `SET 4,A`. -/
def execSet4A (s : State) : Result := setBit 4 (.reg .a) s

/-- R281: `SET 5,B`. -/
def execSet5B (s : State) : Result := setBit 5 (.reg .b) s

/-- R281: `SET 5,C`. -/
def execSet5C (s : State) : Result := setBit 5 (.reg .c) s

/-- R281: `SET 5,D`. -/
def execSet5D (s : State) : Result := setBit 5 (.reg .d) s

/-- R281: `SET 5,E`. -/
def execSet5E (s : State) : Result := setBit 5 (.reg .e) s

/-- R281: `SET 5,H`. -/
def execSet5H (s : State) : Result := setBit 5 (.reg .h) s

/-- R281: `SET 5,L`. -/
def execSet5L (s : State) : Result := setBit 5 (.reg .l) s

/-- R282: `SET 5,(HL)`. -/
def execSet5IndHl (s : State) : Result := setBit 5 (.atHl) s

/-- R281: `SET 5,A`. -/
def execSet5A (s : State) : Result := setBit 5 (.reg .a) s

/-- R281: `SET 6,B`. -/
def execSet6B (s : State) : Result := setBit 6 (.reg .b) s

/-- R281: `SET 6,C`. -/
def execSet6C (s : State) : Result := setBit 6 (.reg .c) s

/-- R281: `SET 6,D`. -/
def execSet6D (s : State) : Result := setBit 6 (.reg .d) s

/-- R281: `SET 6,E`. -/
def execSet6E (s : State) : Result := setBit 6 (.reg .e) s

/-- R281: `SET 6,H`. -/
def execSet6H (s : State) : Result := setBit 6 (.reg .h) s

/-- R281: `SET 6,L`. -/
def execSet6L (s : State) : Result := setBit 6 (.reg .l) s

/-- R282: `SET 6,(HL)`. -/
def execSet6IndHl (s : State) : Result := setBit 6 (.atHl) s

/-- R281: `SET 6,A`. -/
def execSet6A (s : State) : Result := setBit 6 (.reg .a) s

/-- R281: `SET 7,B`. -/
def execSet7B (s : State) : Result := setBit 7 (.reg .b) s

/-- R281: `SET 7,C`. -/
def execSet7C (s : State) : Result := setBit 7 (.reg .c) s

/-- R281: `SET 7,D`. -/
def execSet7D (s : State) : Result := setBit 7 (.reg .d) s

/-- R281: `SET 7,E`. -/
def execSet7E (s : State) : Result := setBit 7 (.reg .e) s

/-- R281: `SET 7,H`. -/
def execSet7H (s : State) : Result := setBit 7 (.reg .h) s

/-- R281: `SET 7,L`. -/
def execSet7L (s : State) : Result := setBit 7 (.reg .l) s

/-- R282: `SET 7,(HL)`. -/
def execSet7IndHl (s : State) : Result := setBit 7 (.atHl) s

/-- R281: `SET 7,A`. -/
def execSet7A (s : State) : Result := setBit 7 (.reg .a) s

end Sys2Proof.Machine
end

