-- ==== Sys2Proof/Machine/Load16.lean ====
section
/-! DEFINITION. The 16-bit loads and the stack instructions (41_load16.md R180 to R185). -/

namespace Sys2Proof.Machine

/-- `rr[p] <- nn` (R180). -/
def ld16 (p : Pair) (nn : Word) (s : State) : Result := .next (s.setPair p nn)

/-- `MemWrite(nn, 2, SP)` (R181). -/
def storeSp (nn : Word) (s : State) : Result := memWrite16 nn s.sp s

/-- `SP <- HL` (R182). -/
def ldSpHl (s : State) : Result := .next (s.setSP s.hl)

/-- `HL <- AddSpE(e)`; SP unchanged (R183). -/
def ldHlSpE (e : Byte) (s : State) : Result :=
  let (v, f) := addSpE s.sp e
  .next ((s.setF f).setHL v)

/-- `Push16(qq[p]) ; tick <- tick + Q` (R184). -/
def pushPair (q : StackPair) (s : State) : Result :=
  andThen (push16 (s.stackPair q) s) fun s1 => .next (extraQuantum s1)

/-- `v <- Pop16() ; qq[p] <- v ; tick <- tick + Q` (R185). -/
def popPair (q : StackPair) (s : State) : Result :=
  let (v, s1) := pop16 s
  .next (extraQuantum (s1.setStackPair q v))

/-- R180: `LD BC,nn`. -/
def execLdBcNn (nn : Word) (s : State) : Result := ld16 .bc nn s

/-- R181: `LD (nn),SP`. -/
def execLdIndNnSp (nn : Word) (s : State) : Result := storeSp nn s

/-- R180: `LD DE,nn`. -/
def execLdDeNn (nn : Word) (s : State) : Result := ld16 .de nn s

/-- R180: `LD HL,nn`. -/
def execLdHlNn (nn : Word) (s : State) : Result := ld16 .hl nn s

/-- R180: `LD SP,nn`. -/
def execLdSpNn (nn : Word) (s : State) : Result := ld16 .sp nn s

/-- R185: `POP BC`. -/
def execPopBc (s : State) : Result := popPair .bc s

/-- R184: `PUSH BC`. -/
def execPushBc (s : State) : Result := pushPair .bc s

/-- R185: `POP DE`. -/
def execPopDe (s : State) : Result := popPair .de s

/-- R184: `PUSH DE`. -/
def execPushDe (s : State) : Result := pushPair .de s

/-- R185: `POP HL`. -/
def execPopHl (s : State) : Result := popPair .hl s

/-- R184: `PUSH HL`. -/
def execPushHl (s : State) : Result := pushPair .hl s

/-- R185: `POP AF`. -/
def execPopAf (s : State) : Result := popPair .af s

/-- R184: `PUSH AF`. -/
def execPushAf (s : State) : Result := pushPair .af s

/-- R183: `LD HL,SP+e`. -/
def execLdHlSpE (e : Byte) (s : State) : Result := ldHlSpE e s

/-- R182: `LD SP,HL`. -/
def execLdSpHl (s : State) : Result := ldSpHl s

end Sys2Proof.Machine
end

