-- ==== Sys2Proof/Machine/Load8.lean ====
section
/-! DEFINITION. The 8-bit loads (40_load8.md R160 to R178). No flag is read or written. -/

namespace Sys2Proof.Machine

/-- `r8[y] <- r8[z]`: the source is read before the destination is written (R160, R161, R162). -/
def ld8 (dst src : Operand8) (s : State) : Result :=
  let (v, s1) := readOperand src s
  writeOperand dst v s1

/-- `r8[y] <- n` (R163, R164). -/
def ld8n (dst : Operand8) (n : Byte) (s : State) : Result := writeOperand dst n s

/-- `A <- MemRead(address, 1)`, then the step of HL where the form has one (R165, R166, R169, R171, R173, R175, R176). -/
def loadA (m : AddrMode) (s : State) : Result :=
  let (v, s1) := memRead (addressOf m s) s
  .next (stepHL m (s1.setReg .a v))

/-- `MemWrite(address, 1, A)`, then the step of HL where the form has one (R167, R168, R170, R172, R174, R177, R178). -/
def storeA (m : AddrMode) (s : State) : Result :=
  andThen (memWrite (addressOf m s) s.a s) fun s1 => .next (stepHL m s1)

/-- R167: `LD (BC),A`. -/
def execLdIndBcA (s : State) : Result := storeA .bc s

/-- R163: `LD B,n`. -/
def execLdBN (n : Byte) (s : State) : Result := ld8n (.reg .b) n s

/-- R165: `LD A,(BC)`. -/
def execLdAIndBc (s : State) : Result := loadA .bc s

/-- R163: `LD C,n`. -/
def execLdCN (n : Byte) (s : State) : Result := ld8n (.reg .c) n s

/-- R168: `LD (DE),A`. -/
def execLdIndDeA (s : State) : Result := storeA .de s

/-- R163: `LD D,n`. -/
def execLdDN (n : Byte) (s : State) : Result := ld8n (.reg .d) n s

/-- R166: `LD A,(DE)`. -/
def execLdAIndDe (s : State) : Result := loadA .de s

/-- R163: `LD E,n`. -/
def execLdEN (n : Byte) (s : State) : Result := ld8n (.reg .e) n s

/-- R177: `LD (HL+),A`. -/
def execLdIndHliA (s : State) : Result := storeA .hlInc s

/-- R163: `LD H,n`. -/
def execLdHN (n : Byte) (s : State) : Result := ld8n (.reg .h) n s

/-- R175: `LD A,(HL+)`. -/
def execLdAIndHli (s : State) : Result := loadA .hlInc s

/-- R163: `LD L,n`. -/
def execLdLN (n : Byte) (s : State) : Result := ld8n (.reg .l) n s

/-- R178: `LD (HL-),A`. -/
def execLdIndHldA (s : State) : Result := storeA .hlDec s

/-- R164: `LD (HL),n`. -/
def execLdIndHlN (n : Byte) (s : State) : Result := ld8n (.atHl) n s

/-- R176: `LD A,(HL-)`. -/
def execLdAIndHld (s : State) : Result := loadA .hlDec s

/-- R163: `LD A,n`. -/
def execLdAN (n : Byte) (s : State) : Result := ld8n (.reg .a) n s

/-- R160: `LD B,B`. -/
def execLdBB (s : State) : Result := ld8 (.reg .b) (.reg .b) s

/-- R160: `LD B,C`. -/
def execLdBC (s : State) : Result := ld8 (.reg .b) (.reg .c) s

/-- R160: `LD B,D`. -/
def execLdBD (s : State) : Result := ld8 (.reg .b) (.reg .d) s

/-- R160: `LD B,E`. -/
def execLdBE (s : State) : Result := ld8 (.reg .b) (.reg .e) s

/-- R160: `LD B,H`. -/
def execLdBH (s : State) : Result := ld8 (.reg .b) (.reg .h) s

/-- R160: `LD B,L`. -/
def execLdBL (s : State) : Result := ld8 (.reg .b) (.reg .l) s

/-- R161: `LD B,(HL)`. -/
def execLdBIndHl (s : State) : Result := ld8 (.reg .b) (.atHl) s

/-- R160: `LD B,A`. -/
def execLdBA (s : State) : Result := ld8 (.reg .b) (.reg .a) s

/-- R160: `LD C,B`. -/
def execLdCB (s : State) : Result := ld8 (.reg .c) (.reg .b) s

/-- R160: `LD C,C`. -/
def execLdCC (s : State) : Result := ld8 (.reg .c) (.reg .c) s

/-- R160: `LD C,D`. -/
def execLdCD (s : State) : Result := ld8 (.reg .c) (.reg .d) s

/-- R160: `LD C,E`. -/
def execLdCE (s : State) : Result := ld8 (.reg .c) (.reg .e) s

/-- R160: `LD C,H`. -/
def execLdCH (s : State) : Result := ld8 (.reg .c) (.reg .h) s

/-- R160: `LD C,L`. -/
def execLdCL (s : State) : Result := ld8 (.reg .c) (.reg .l) s

/-- R161: `LD C,(HL)`. -/
def execLdCIndHl (s : State) : Result := ld8 (.reg .c) (.atHl) s

/-- R160: `LD C,A`. -/
def execLdCA (s : State) : Result := ld8 (.reg .c) (.reg .a) s

/-- R160: `LD D,B`. -/
def execLdDB (s : State) : Result := ld8 (.reg .d) (.reg .b) s

/-- R160: `LD D,C`. -/
def execLdDC (s : State) : Result := ld8 (.reg .d) (.reg .c) s

/-- R160: `LD D,D`. -/
def execLdDD (s : State) : Result := ld8 (.reg .d) (.reg .d) s

/-- R160: `LD D,E`. -/
def execLdDE (s : State) : Result := ld8 (.reg .d) (.reg .e) s

/-- R160: `LD D,H`. -/
def execLdDH (s : State) : Result := ld8 (.reg .d) (.reg .h) s

/-- R160: `LD D,L`. -/
def execLdDL (s : State) : Result := ld8 (.reg .d) (.reg .l) s

/-- R161: `LD D,(HL)`. -/
def execLdDIndHl (s : State) : Result := ld8 (.reg .d) (.atHl) s

/-- R160: `LD D,A`. -/
def execLdDA (s : State) : Result := ld8 (.reg .d) (.reg .a) s

/-- R160: `LD E,B`. -/
def execLdEB (s : State) : Result := ld8 (.reg .e) (.reg .b) s

/-- R160: `LD E,C`. -/
def execLdEC (s : State) : Result := ld8 (.reg .e) (.reg .c) s

/-- R160: `LD E,D`. -/
def execLdED (s : State) : Result := ld8 (.reg .e) (.reg .d) s

/-- R160: `LD E,E`. -/
def execLdEE (s : State) : Result := ld8 (.reg .e) (.reg .e) s

/-- R160: `LD E,H`. -/
def execLdEH (s : State) : Result := ld8 (.reg .e) (.reg .h) s

/-- R160: `LD E,L`. -/
def execLdEL (s : State) : Result := ld8 (.reg .e) (.reg .l) s

/-- R161: `LD E,(HL)`. -/
def execLdEIndHl (s : State) : Result := ld8 (.reg .e) (.atHl) s

/-- R160: `LD E,A`. -/
def execLdEA (s : State) : Result := ld8 (.reg .e) (.reg .a) s

/-- R160: `LD H,B`. -/
def execLdHB (s : State) : Result := ld8 (.reg .h) (.reg .b) s

/-- R160: `LD H,C`. -/
def execLdHC (s : State) : Result := ld8 (.reg .h) (.reg .c) s

/-- R160: `LD H,D`. -/
def execLdHD (s : State) : Result := ld8 (.reg .h) (.reg .d) s

/-- R160: `LD H,E`. -/
def execLdHE (s : State) : Result := ld8 (.reg .h) (.reg .e) s

/-- R160: `LD H,H`. -/
def execLdHH (s : State) : Result := ld8 (.reg .h) (.reg .h) s

/-- R160: `LD H,L`. -/
def execLdHL (s : State) : Result := ld8 (.reg .h) (.reg .l) s

/-- R161: `LD H,(HL)`. -/
def execLdHIndHl (s : State) : Result := ld8 (.reg .h) (.atHl) s

/-- R160: `LD H,A`. -/
def execLdHA (s : State) : Result := ld8 (.reg .h) (.reg .a) s

/-- R160: `LD L,B`. -/
def execLdLB (s : State) : Result := ld8 (.reg .l) (.reg .b) s

/-- R160: `LD L,C`. -/
def execLdLC (s : State) : Result := ld8 (.reg .l) (.reg .c) s

/-- R160: `LD L,D`. -/
def execLdLD (s : State) : Result := ld8 (.reg .l) (.reg .d) s

/-- R160: `LD L,E`. -/
def execLdLE (s : State) : Result := ld8 (.reg .l) (.reg .e) s

/-- R160: `LD L,H`. -/
def execLdLH (s : State) : Result := ld8 (.reg .l) (.reg .h) s

/-- R160: `LD L,L`. -/
def execLdLL (s : State) : Result := ld8 (.reg .l) (.reg .l) s

/-- R161: `LD L,(HL)`. -/
def execLdLIndHl (s : State) : Result := ld8 (.reg .l) (.atHl) s

/-- R160: `LD L,A`. -/
def execLdLA (s : State) : Result := ld8 (.reg .l) (.reg .a) s

/-- R162: `LD (HL),B`. -/
def execLdIndHlB (s : State) : Result := ld8 (.atHl) (.reg .b) s

/-- R162: `LD (HL),C`. -/
def execLdIndHlC (s : State) : Result := ld8 (.atHl) (.reg .c) s

/-- R162: `LD (HL),D`. -/
def execLdIndHlD (s : State) : Result := ld8 (.atHl) (.reg .d) s

/-- R162: `LD (HL),E`. -/
def execLdIndHlE (s : State) : Result := ld8 (.atHl) (.reg .e) s

/-- R162: `LD (HL),H`. -/
def execLdIndHlH (s : State) : Result := ld8 (.atHl) (.reg .h) s

/-- R162: `LD (HL),L`. -/
def execLdIndHlL (s : State) : Result := ld8 (.atHl) (.reg .l) s

/-- R162: `LD (HL),A`. -/
def execLdIndHlA (s : State) : Result := ld8 (.atHl) (.reg .a) s

/-- R160: `LD A,B`. -/
def execLdAB (s : State) : Result := ld8 (.reg .a) (.reg .b) s

/-- R160: `LD A,C`. -/
def execLdAC (s : State) : Result := ld8 (.reg .a) (.reg .c) s

/-- R160: `LD A,D`. -/
def execLdAD (s : State) : Result := ld8 (.reg .a) (.reg .d) s

/-- R160: `LD A,E`. -/
def execLdAE (s : State) : Result := ld8 (.reg .a) (.reg .e) s

/-- R160: `LD A,H`. -/
def execLdAH (s : State) : Result := ld8 (.reg .a) (.reg .h) s

/-- R160: `LD A,L`. -/
def execLdAL (s : State) : Result := ld8 (.reg .a) (.reg .l) s

/-- R161: `LD A,(HL)`. -/
def execLdAIndHl (s : State) : Result := ld8 (.reg .a) (.atHl) s

/-- R160: `LD A,A`. -/
def execLdAA (s : State) : Result := ld8 (.reg .a) (.reg .a) s

/-- R174: `LDH (n),A`. -/
def execLdhIndNA (n : Byte) (s : State) : Result := storeA (.high n) s

/-- R172: `LDH (C),A`. -/
def execLdhIndCA (s : State) : Result := storeA .highC s

/-- R170: `LD (nn),A`. -/
def execLdIndNnA (nn : Word) (s : State) : Result := storeA (.abs nn) s

/-- R173: `LDH A,(n)`. -/
def execLdhAIndN (n : Byte) (s : State) : Result := loadA (.high n) s

/-- R171: `LDH A,(C)`. -/
def execLdhAIndC (s : State) : Result := loadA .highC s

/-- R169: `LD A,(nn)`. -/
def execLdAIndNn (nn : Word) (s : State) : Result := loadA (.abs nn) s

end Sys2Proof.Machine
end

