-- ==== Sys2Proof/Machine/System.lean ====
section
/-! DEFINITION. HALT, STOP, DI, EI and the eleven unassigned opcodes (46_system.md R250 to R254). -/

namespace Sys2Proof.Machine

/-- `halted <- 1` (R250). -/
def enterHalt (s : State) : Result := .next { s with halted := true }

/-- `report StopExecuted(PC - 1)`; nothing else (R251). -/
def stopNoEffect (s : State) : Result := .next (report (.stopExecuted (s.pc - 1)) s)

/-- `IME <- 0` (R252). -/
def disableInterrupts (s : State) : Result := .next (disableUnder Config.eiDelay s)

/-- `IME <- 1`, at once with `EI_DELAY` = 0 (R253, D5). -/
def enableInterrupts (s : State) : Result := .next (enableUnder Config.eiDelay s)

/-- An unassigned opcode: a report and no effect, or a fatal stop, by `ILLEGAL_OPCODE_POLICY` (R254). -/
def illegalOpcode (op : Byte) (s : State) : Result :=
  match Config.illegalOpcodePolicy with
  | .logAndContinue => .next (report (.illegalOpcode op (s.pc - 1)) s)
  | .fatal => .fault (.illegalOpcode op (s.pc - 1))

/-- R251: `STOP`. -/
def execStop (s : State) : Result := stopNoEffect s

/-- R250: `HALT`. -/
def execHalt (s : State) : Result := enterHalt s

/-- R254: `ILLEGAL_D3`. -/
def execIllegalD3 (s : State) : Result := illegalOpcode 0xD3 s

/-- R254: `ILLEGAL_DB`. -/
def execIllegalDB (s : State) : Result := illegalOpcode 0xDB s

/-- R254: `ILLEGAL_DD`. -/
def execIllegalDD (s : State) : Result := illegalOpcode 0xDD s

/-- R254: `ILLEGAL_E3`. -/
def execIllegalE3 (s : State) : Result := illegalOpcode 0xE3 s

/-- R254: `ILLEGAL_E4`. -/
def execIllegalE4 (s : State) : Result := illegalOpcode 0xE4 s

/-- R254: `ILLEGAL_EB`. -/
def execIllegalEB (s : State) : Result := illegalOpcode 0xEB s

/-- R254: `ILLEGAL_EC`. -/
def execIllegalEC (s : State) : Result := illegalOpcode 0xEC s

/-- R254: `ILLEGAL_ED`. -/
def execIllegalED (s : State) : Result := illegalOpcode 0xED s

/-- R252: `DI`. -/
def execDi (s : State) : Result := disableInterrupts s

/-- R254: `ILLEGAL_F4`. -/
def execIllegalF4 (s : State) : Result := illegalOpcode 0xF4 s

/-- R253: `EI`. -/
def execEi (s : State) : Result := enableInterrupts s

/-- R254: `ILLEGAL_FC`. -/
def execIllegalFC (s : State) : Result := illegalOpcode 0xFC s

/-- R254: `ILLEGAL_FD`. -/
def execIllegalFD (s : State) : Result := illegalOpcode 0xFD s

end Sys2Proof.Machine
end

