-- ==== Sys2Proof/Machine/Place.lean ====
section
/-! DEFINITION. Storing an instruction where the next fetch reads it (log 10, log 23), and reading one byte without
a bus access. -/

namespace Sys2Proof.Machine

/-- One byte of the core's own storage or registers (10_state.md R31 to R36). -/
inductive Cell where
  | rom (i : Nat)
  | cartRam (i : Nat)
  | wram (i : Nat)
  | hram (i : Nat)
  | ifReg
  | ieReg
  deriving DecidableEq, Repr

/-- The byte of the core's own storage that a read of an address reaches; none for unmapped addresses, closed external
RAM and peripheral windows (R63 to R72, R87 to R89). -/
def cellOf (s : State) (addr : Word) : Option Cell :=
  match regionOf addr with
  | .romLow => some (.rom addr.toNat)
  | .romHigh => some (.rom (romHighIndex s addr))
  | .extRam => if extRamOpen s then some (.cartRam (extRamIndex s addr)) else none
  | .wram => some (.wram (addr.toNat - 0xC000))
  | .echo => some (.wram (addr.toNat - 0xE000))
  | .hram => some (.hram (addr.toNat - 0xFF80))
  | .ifReg => some .ifReg
  | .ieReg => some .ieReg
  | .dmaTrigger => none
  | .unmapped => none
  | .device _ => none

/-- The content of a cell. -/
def State.cell (s : State) : Cell → Byte
  | .rom i => s.rom.read i
  | .cartRam i => s.cartRam.read i
  | .wram i => s.wram.read i
  | .hram i => s.hram.read i
  | .ifReg => s.iflag
  | .ieReg => s.ienable

/-- Replace the content of a cell from outside the machine. -/
def State.putCell (s : State) (c : Cell) (v : Byte) : State :=
  match c with
  | .rom i => { s with rom := s.rom.write i v }
  | .cartRam i => { s with cartRam := s.cartRam.write i v }
  | .wram i => { s with wram := s.wram.write i v }
  | .hram i => { s with hram := s.hram.write i v }
  | .ifReg => { s with iflag := v }
  | .ieReg => { s with ienable := v }

/-- What a bus read of an address returns when the core itself decides it: none for the peripheral windows, whose
byte is free (R71). -/
def State.busByte (s : State) (addr : Word) : Option Byte :=
  match regionOf addr with
  | .device _ => none
  | .dmaTrigger => none
  | .unmapped => some Config.openBus
  | .extRam => some (if extRamOpen s then s.cartRam.read (extRamIndex s addr) else Config.ramDisabledRead)
  | _ => (cellOf s addr).map s.cell

/-- Put a byte at an address from outside the machine, where the address reaches a cell. -/
def State.place (s : State) (addr : Word) (v : Byte) : State :=
  match cellOf s addr with
  | some c => s.putCell c v
  | none => s

/-- Put bytes at consecutive addresses from outside the machine. -/
def State.placeAll : State → Word → List Byte → State
  | s, _, [] => s
  | s, addr, v :: vs => (s.place addr v).placeAll (addr + 1) vs

/-- The three addresses from PC on all reach a cell, so that an instruction can be placed there. -/
def fetchPlaceable (s : State) : Bool :=
  (cellOf s s.pc).isSome && (cellOf s (s.pc + 1)).isSome && (cellOf s (s.pc + 2)).isSome

/-- The state with the processor running, and with PC at the entry point if nothing can be placed where it is (log 23). -/
def readyToFetch (s : State) : State :=
  if fetchPlaceable s then { s with halted := false } else { s with halted := false, pc := 0x0100 }

end Sys2Proof.Machine
end

