-- ==== Sys2Proof/Machine/Step.lean ====
section
/-! DEFINITION. One step of the core (60_exceptions.md R300). -/

namespace Sys2Proof.Machine

/-- `ExecuteOne()` (R150). -/
def executeOne (s : State) : Result :=
  let (i, s1) := fetchInstr s
  exec i s1

/-- The instruction part of a step (R300 part 1), with the end that `EI_DELAY` gives it (U8). -/
def instructionPart (s : State) : Result :=
  andThen (if s.halted then .next (haltedPart s) else executeOne s) fun t =>
  .next (settleEnable Config.eiDelay s.eiPending t)

/-- `step()` (R300): the instruction part, the router update, at most one interrupt dispatch. -/
def step (s : State) : Host.Outcome State Fault Refusal := andThen (instructionPart (beginStep s)) finishStep

/-- The state with an instruction, given as a word of the opcode table, stored where `step` fetches next (log 10, log 23). -/
def State.withFetchWord (s : State) (nbits w : Nat) : State :=
  let s1 := readyToFetch s
  s1.placeAll s1.pc (tableWordBytes nbits w)

end Sys2Proof.Machine
end

