-- ==== Sys2Proof/Machine/CartridgeLoad.lean ====
section
/-! DEFINITION. The load procedure the host runs before reset, and the save data (70_reset_and_hazards.md R342 to R346). -/

namespace Sys2Proof.Machine

/-- Why a file is no machine (60_exceptions.md R305). -/
inductive LoadFault where
  /-- `UnreadableRom`: the file cannot be read. -/
  | unreadableRom
  /-- `RomSize(length)`: shorter than the 0x0150 bytes of a whole header. -/
  | romSize (length : Nat)
  /-- `HeaderChecksum(computed, stored)`. -/
  | headerChecksum (computed stored : Byte)
  /-- `RamSizeCode(code)`: no size in the table. -/
  | ramSizeCode (code : Byte)
  deriving DecidableEq, Repr

/-- `HeaderChecksum(ROM)`: over 0x0134 to 0x014C (R343). -/
def headerChecksum (rom : Memory) : Byte :=
  (List.range 25).foldl (fun x i => x - rom.read (0x0134 + i) - 1) 0

/-- `RamSizeOf(code)` (R345). -/
def ramSizeOf (code : Byte) : Option Nat :=
  match code.toNat with
  | 0 => some 0
  | 1 => some 0x800
  | 2 => some 0x2000
  | 3 => some 0x8000
  | 4 => some 0x20000
  | 5 => some 0x10000
  | _ => none

/-- The least `2^k * start` with `need` bytes of 16 KiB banks, by doubling; `fuel` doublings suffice for any file. -/
def doubleUntil : Nat → Nat → Nat → Nat
  | 0, n, _ => n
  | fuel + 1, n, need => if need ≤ 0x4000 * n then n else doubleUntil fuel (2 * n) need

/-- `NUM_ROM_BANKS`: the least power of two, at least 2, that holds the file (R342). -/
def romBanksFor (length : Nat) : Nat := doubleUntil length 2 length

/-- The image: the file, extended with bytes `ROM_PAD` up to `size` (R342). Pad bytes that are what an unlisted byte
reads as take no entry. -/
def romImage (bytes : List Byte) (size : Nat) : Memory :=
  Memory.ofBytes 0
    (if Config.romPad = Memory.unlisted then bytes else bytes ++ List.replicate (size - bytes.length) Config.romPad)

/-- `Load(file)`: the cartridge, or the reason there is no machine; `none` is a file that cannot be read (R342). -/
def loadCartridge (file : Option (List Byte)) : Except LoadFault Cartridge :=
  match file with
  | none => .error .unreadableRom
  | some bytes =>
    if bytes.length < 0x0150 then .error (.romSize bytes.length)
    else
      let banks := romBanksFor bytes.length
      let rom := romImage bytes (0x4000 * banks)
      let sum := headerChecksum rom
      if sum ≠ rom.read 0x014D then .error (.headerChecksum sum (rom.read 0x014D))
      else
        match ramSizeOf (rom.read 0x0149) with
        | none => .error (.ramSizeCode (rom.read 0x0149))
        | some size => .ok ⟨rom, banks, size, []⟩

/-- `LoadSave(bytes)`: as many bytes as fit, from offset 0; the rest stays zero (R346). -/
def loadSave (cart : Cartridge) (bytes : List Byte) : Cartridge :=
  { cart with ramInit := Memory.ofBytes 0 (bytes.take cart.ramSize) }

/-- The machine the host builds from a file and, if there is one, a save file (R342, R346, R340). -/
def boot (file : Option (List Byte)) (save : Option (List Byte)) : Except LoadFault State :=
  match loadCartridge file with
  | .error e => .error e
  | .ok cart => .ok (State.powerOn (match save with | none => cart | some bytes => loadSave cart bytes))

/-- The header fields, read-only metadata with no effect on any other rule (R344). -/
structure Header where
  entryPoint : List Byte
  logo : List Byte
  title : List Byte
  newLicensee : List Byte
  flagByte : Byte
  controllerKind : Byte
  romSizeCode : Byte
  ramSizeCode : Byte
  destination : Byte
  oldLicensee : Byte
  version : Byte
  checksum : Byte
  globalChecksum : List Byte
  deriving DecidableEq, Repr

/-- The header fields at their offsets (R344). -/
def headerOf (rom : Memory) : Header :=
  let field (first count : Nat) : List Byte := (List.range count).map fun i => rom.read (first + i)
  { entryPoint := field 0x0100 4
    logo := field 0x0104 48
    title := field 0x0134 16
    newLicensee := field 0x0144 2
    flagByte := rom.read 0x0146
    controllerKind := rom.read 0x0147
    romSizeCode := rom.read 0x0148
    ramSizeCode := rom.read 0x0149
    destination := rom.read 0x014A
    oldLicensee := rom.read 0x014B
    version := rom.read 0x014C
    checksum := rom.read 0x014D
    globalChecksum := field 0x014E 2 }

end Sys2Proof.Machine
end

