-- ==== Sys2Proof/Machine/Form.lean ====
section
/-! DEFINITION. The rows of the opcode table grouped by the rules that give them their meaning: `Instr.form` reads the
"format" and "fields" columns of spec/opcode_table.json (30_encoding.md R132, R151). The machine does not use it: it is
the vocabulary in which statements speak of all instructions of one shape. -/

namespace Sys2Proof

/-- The shape of an instruction with its operands by name. -/
inductive Form where
  /-- R160, R161, R162. -/
  | ld8 (dst src : Operand8)
  /-- R163, R164. -/
  | ld8n (dst : Operand8) (n : Byte)
  /-- R165, R166, R169, R171, R173, R175, R176. -/
  | loadA (m : AddrMode)
  /-- R167, R168, R170, R172, R174, R177, R178. -/
  | storeA (m : AddrMode)
  /-- R180. -/
  | ld16 (p : Pair) (nn : Word)
  /-- R181. -/
  | storeSp (nn : Word)
  /-- R182. -/
  | ldSpHl
  /-- R183. -/
  | ldHlSpE (e : Byte)
  /-- R184. -/
  | push (q : StackPair)
  /-- R185. -/
  | pop (q : StackPair)
  /-- R192 to R214, the register and (HL) forms. -/
  | alu (o : AluOp) (src : Operand8)
  /-- R194 to R215, the immediate forms. -/
  | aluN (o : AluOp) (n : Byte)
  /-- R216, R217. -/
  | inc8 (x : Operand8)
  /-- R218, R219. -/
  | dec8 (x : Operand8)
  /-- R220. -/
  | addHl (p : Pair)
  /-- R221. -/
  | inc16 (p : Pair)
  /-- R222. -/
  | dec16 (p : Pair)
  /-- R223. -/
  | addSpE (e : Byte)
  /-- R225. -/
  | nop
  /-- R226 to R229. -/
  | rotA (o : RotOp)
  /-- R230. -/
  | daa
  /-- R231. -/
  | cpl
  /-- R232. -/
  | scf
  /-- R233. -/
  | ccf
  /-- R235. -/
  | jp (nn : Word)
  /-- R236. -/
  | jpCc (cc : Cond) (nn : Word)
  /-- R237. -/
  | jpHl
  /-- R238. -/
  | jr (e : Byte)
  /-- R239. -/
  | jrCc (cc : Cond) (e : Byte)
  /-- R240. -/
  | call (nn : Word)
  /-- R241. -/
  | callCc (cc : Cond) (nn : Word)
  /-- R242. -/
  | ret
  /-- R243. -/
  | retCc (cc : Cond)
  /-- R244. -/
  | reti
  /-- R245. -/
  | rst (t : Fin 8)
  /-- R250. -/
  | halt
  /-- R251. -/
  | stop
  /-- R252. -/
  | di
  /-- R253. -/
  | ei
  /-- R254. -/
  | illegal (op : Byte)
  /-- R255, the row PREFIX CB. -/
  | cbByte (op2 : Byte)
  /-- R261 to R276. -/
  | rot (o : RotOp) (x : Operand8)
  /-- R277, R278. -/
  | bit (b : Fin 8) (x : Operand8)
  /-- R279, R280. -/
  | res (b : Fin 8) (x : Operand8)
  /-- R281, R282. -/
  | set (b : Fin 8) (x : Operand8)
  deriving DecidableEq, Repr

/-- The form of each row: its "format" and "fields" columns (R151). -/
def Instr.form : Instr → Form
  | .nop => .nop
  | .ldBcNn nn => .ld16 .bc nn
  | .ldIndBcA => .storeA .bc
  | .incBc => .inc16 .bc
  | .incB => .inc8 (.reg .b)
  | .decB => .dec8 (.reg .b)
  | .ldBN n => .ld8n (.reg .b) n
  | .rlca => .rotA .rlc
  | .ldIndNnSp nn => .storeSp nn
  | .addHlBc => .addHl .bc
  | .ldAIndBc => .loadA .bc
  | .decBc => .dec16 .bc
  | .incC => .inc8 (.reg .c)
  | .decC => .dec8 (.reg .c)
  | .ldCN n => .ld8n (.reg .c) n
  | .rrca => .rotA .rrc
  | .stop => .stop
  | .ldDeNn nn => .ld16 .de nn
  | .ldIndDeA => .storeA .de
  | .incDe => .inc16 .de
  | .incD => .inc8 (.reg .d)
  | .decD => .dec8 (.reg .d)
  | .ldDN n => .ld8n (.reg .d) n
  | .rla => .rotA .rl
  | .jrE e => .jr e
  | .addHlDe => .addHl .de
  | .ldAIndDe => .loadA .de
  | .decDe => .dec16 .de
  | .incE => .inc8 (.reg .e)
  | .decE => .dec8 (.reg .e)
  | .ldEN n => .ld8n (.reg .e) n
  | .rra => .rotA .rr
  | .jrNzE e => .jrCc .nz e
  | .ldHlNn nn => .ld16 .hl nn
  | .ldIndHliA => .storeA .hlInc
  | .incHl => .inc16 .hl
  | .incH => .inc8 (.reg .h)
  | .decH => .dec8 (.reg .h)
  | .ldHN n => .ld8n (.reg .h) n
  | .daa => .daa
  | .jrZE e => .jrCc .z e
  | .addHlHl => .addHl .hl
  | .ldAIndHli => .loadA .hlInc
  | .decHl => .dec16 .hl
  | .incL => .inc8 (.reg .l)
  | .decL => .dec8 (.reg .l)
  | .ldLN n => .ld8n (.reg .l) n
  | .cpl => .cpl
  | .jrNcE e => .jrCc .nc e
  | .ldSpNn nn => .ld16 .sp nn
  | .ldIndHldA => .storeA .hlDec
  | .incSp => .inc16 .sp
  | .incIndHl => .inc8 (.atHl)
  | .decIndHl => .dec8 (.atHl)
  | .ldIndHlN n => .ld8n (.atHl) n
  | .scf => .scf
  | .jrCE e => .jrCc .c e
  | .addHlSp => .addHl .sp
  | .ldAIndHld => .loadA .hlDec
  | .decSp => .dec16 .sp
  | .incA => .inc8 (.reg .a)
  | .decA => .dec8 (.reg .a)
  | .ldAN n => .ld8n (.reg .a) n
  | .ccf => .ccf
  | .ldBB => .ld8 (.reg .b) (.reg .b)
  | .ldBC => .ld8 (.reg .b) (.reg .c)
  | .ldBD => .ld8 (.reg .b) (.reg .d)
  | .ldBE => .ld8 (.reg .b) (.reg .e)
  | .ldBH => .ld8 (.reg .b) (.reg .h)
  | .ldBL => .ld8 (.reg .b) (.reg .l)
  | .ldBIndHl => .ld8 (.reg .b) (.atHl)
  | .ldBA => .ld8 (.reg .b) (.reg .a)
  | .ldCB => .ld8 (.reg .c) (.reg .b)
  | .ldCC => .ld8 (.reg .c) (.reg .c)
  | .ldCD => .ld8 (.reg .c) (.reg .d)
  | .ldCE => .ld8 (.reg .c) (.reg .e)
  | .ldCH => .ld8 (.reg .c) (.reg .h)
  | .ldCL => .ld8 (.reg .c) (.reg .l)
  | .ldCIndHl => .ld8 (.reg .c) (.atHl)
  | .ldCA => .ld8 (.reg .c) (.reg .a)
  | .ldDB => .ld8 (.reg .d) (.reg .b)
  | .ldDC => .ld8 (.reg .d) (.reg .c)
  | .ldDD => .ld8 (.reg .d) (.reg .d)
  | .ldDE => .ld8 (.reg .d) (.reg .e)
  | .ldDH => .ld8 (.reg .d) (.reg .h)
  | .ldDL => .ld8 (.reg .d) (.reg .l)
  | .ldDIndHl => .ld8 (.reg .d) (.atHl)
  | .ldDA => .ld8 (.reg .d) (.reg .a)
  | .ldEB => .ld8 (.reg .e) (.reg .b)
  | .ldEC => .ld8 (.reg .e) (.reg .c)
  | .ldED => .ld8 (.reg .e) (.reg .d)
  | .ldEE => .ld8 (.reg .e) (.reg .e)
  | .ldEH => .ld8 (.reg .e) (.reg .h)
  | .ldEL => .ld8 (.reg .e) (.reg .l)
  | .ldEIndHl => .ld8 (.reg .e) (.atHl)
  | .ldEA => .ld8 (.reg .e) (.reg .a)
  | .ldHB => .ld8 (.reg .h) (.reg .b)
  | .ldHC => .ld8 (.reg .h) (.reg .c)
  | .ldHD => .ld8 (.reg .h) (.reg .d)
  | .ldHE => .ld8 (.reg .h) (.reg .e)
  | .ldHH => .ld8 (.reg .h) (.reg .h)
  | .ldHL => .ld8 (.reg .h) (.reg .l)
  | .ldHIndHl => .ld8 (.reg .h) (.atHl)
  | .ldHA => .ld8 (.reg .h) (.reg .a)
  | .ldLB => .ld8 (.reg .l) (.reg .b)
  | .ldLC => .ld8 (.reg .l) (.reg .c)
  | .ldLD => .ld8 (.reg .l) (.reg .d)
  | .ldLE => .ld8 (.reg .l) (.reg .e)
  | .ldLH => .ld8 (.reg .l) (.reg .h)
  | .ldLL => .ld8 (.reg .l) (.reg .l)
  | .ldLIndHl => .ld8 (.reg .l) (.atHl)
  | .ldLA => .ld8 (.reg .l) (.reg .a)
  | .ldIndHlB => .ld8 (.atHl) (.reg .b)
  | .ldIndHlC => .ld8 (.atHl) (.reg .c)
  | .ldIndHlD => .ld8 (.atHl) (.reg .d)
  | .ldIndHlE => .ld8 (.atHl) (.reg .e)
  | .ldIndHlH => .ld8 (.atHl) (.reg .h)
  | .ldIndHlL => .ld8 (.atHl) (.reg .l)
  | .halt => .halt
  | .ldIndHlA => .ld8 (.atHl) (.reg .a)
  | .ldAB => .ld8 (.reg .a) (.reg .b)
  | .ldAC => .ld8 (.reg .a) (.reg .c)
  | .ldAD => .ld8 (.reg .a) (.reg .d)
  | .ldAE => .ld8 (.reg .a) (.reg .e)
  | .ldAH => .ld8 (.reg .a) (.reg .h)
  | .ldAL => .ld8 (.reg .a) (.reg .l)
  | .ldAIndHl => .ld8 (.reg .a) (.atHl)
  | .ldAA => .ld8 (.reg .a) (.reg .a)
  | .addAB => .alu .add (.reg .b)
  | .addAC => .alu .add (.reg .c)
  | .addAD => .alu .add (.reg .d)
  | .addAE => .alu .add (.reg .e)
  | .addAH => .alu .add (.reg .h)
  | .addAL => .alu .add (.reg .l)
  | .addAIndHl => .alu .add (.atHl)
  | .addAA => .alu .add (.reg .a)
  | .adcAB => .alu .adc (.reg .b)
  | .adcAC => .alu .adc (.reg .c)
  | .adcAD => .alu .adc (.reg .d)
  | .adcAE => .alu .adc (.reg .e)
  | .adcAH => .alu .adc (.reg .h)
  | .adcAL => .alu .adc (.reg .l)
  | .adcAIndHl => .alu .adc (.atHl)
  | .adcAA => .alu .adc (.reg .a)
  | .subB => .alu .sub (.reg .b)
  | .subC => .alu .sub (.reg .c)
  | .subD => .alu .sub (.reg .d)
  | .subE => .alu .sub (.reg .e)
  | .subH => .alu .sub (.reg .h)
  | .subL => .alu .sub (.reg .l)
  | .subIndHl => .alu .sub (.atHl)
  | .subA => .alu .sub (.reg .a)
  | .sbcAB => .alu .sbc (.reg .b)
  | .sbcAC => .alu .sbc (.reg .c)
  | .sbcAD => .alu .sbc (.reg .d)
  | .sbcAE => .alu .sbc (.reg .e)
  | .sbcAH => .alu .sbc (.reg .h)
  | .sbcAL => .alu .sbc (.reg .l)
  | .sbcAIndHl => .alu .sbc (.atHl)
  | .sbcAA => .alu .sbc (.reg .a)
  | .andB => .alu .and (.reg .b)
  | .andC => .alu .and (.reg .c)
  | .andD => .alu .and (.reg .d)
  | .andE => .alu .and (.reg .e)
  | .andH => .alu .and (.reg .h)
  | .andL => .alu .and (.reg .l)
  | .andIndHl => .alu .and (.atHl)
  | .andA => .alu .and (.reg .a)
  | .xorB => .alu .xor (.reg .b)
  | .xorC => .alu .xor (.reg .c)
  | .xorD => .alu .xor (.reg .d)
  | .xorE => .alu .xor (.reg .e)
  | .xorH => .alu .xor (.reg .h)
  | .xorL => .alu .xor (.reg .l)
  | .xorIndHl => .alu .xor (.atHl)
  | .xorA => .alu .xor (.reg .a)
  | .orB => .alu .or (.reg .b)
  | .orC => .alu .or (.reg .c)
  | .orD => .alu .or (.reg .d)
  | .orE => .alu .or (.reg .e)
  | .orH => .alu .or (.reg .h)
  | .orL => .alu .or (.reg .l)
  | .orIndHl => .alu .or (.atHl)
  | .orA => .alu .or (.reg .a)
  | .cpB => .alu .cp (.reg .b)
  | .cpC => .alu .cp (.reg .c)
  | .cpD => .alu .cp (.reg .d)
  | .cpE => .alu .cp (.reg .e)
  | .cpH => .alu .cp (.reg .h)
  | .cpL => .alu .cp (.reg .l)
  | .cpIndHl => .alu .cp (.atHl)
  | .cpA => .alu .cp (.reg .a)
  | .retNz => .retCc .nz
  | .popBc => .pop .bc
  | .jpNzNn nn => .jpCc .nz nn
  | .jpNn nn => .jp nn
  | .callNzNn nn => .callCc .nz nn
  | .pushBc => .push .bc
  | .addAN n => .aluN .add n
  | .rst00 => .rst 0
  | .retZ => .retCc .z
  | .ret => .ret
  | .jpZNn nn => .jpCc .z nn
  | .prefixCb op2 => .cbByte op2
  | .callZNn nn => .callCc .z nn
  | .callNn nn => .call nn
  | .adcAN n => .aluN .adc n
  | .rst08 => .rst 1
  | .retNc => .retCc .nc
  | .popDe => .pop .de
  | .jpNcNn nn => .jpCc .nc nn
  | .illegalD3 => .illegal 0xD3
  | .callNcNn nn => .callCc .nc nn
  | .pushDe => .push .de
  | .subN n => .aluN .sub n
  | .rst10 => .rst 2
  | .retC => .retCc .c
  | .reti => .reti
  | .jpCNn nn => .jpCc .c nn
  | .illegalDB => .illegal 0xDB
  | .callCNn nn => .callCc .c nn
  | .illegalDD => .illegal 0xDD
  | .sbcAN n => .aluN .sbc n
  | .rst18 => .rst 3
  | .ldhIndNA n => .storeA (.high n)
  | .popHl => .pop .hl
  | .ldhIndCA => .storeA .highC
  | .illegalE3 => .illegal 0xE3
  | .illegalE4 => .illegal 0xE4
  | .pushHl => .push .hl
  | .andN n => .aluN .and n
  | .rst20 => .rst 4
  | .addSpE e => .addSpE e
  | .jpHl => .jpHl
  | .ldIndNnA nn => .storeA (.abs nn)
  | .illegalEB => .illegal 0xEB
  | .illegalEC => .illegal 0xEC
  | .illegalED => .illegal 0xED
  | .xorN n => .aluN .xor n
  | .rst28 => .rst 5
  | .ldhAIndN n => .loadA (.high n)
  | .popAf => .pop .af
  | .ldhAIndC => .loadA .highC
  | .di => .di
  | .illegalF4 => .illegal 0xF4
  | .pushAf => .push .af
  | .orN n => .aluN .or n
  | .rst30 => .rst 6
  | .ldHlSpE e => .ldHlSpE e
  | .ldSpHl => .ldSpHl
  | .ldAIndNn nn => .loadA (.abs nn)
  | .ei => .ei
  | .illegalFC => .illegal 0xFC
  | .illegalFD => .illegal 0xFD
  | .cpN n => .aluN .cp n
  | .rst38 => .rst 7
  | .rlcB => .rot .rlc (.reg .b)
  | .rlcC => .rot .rlc (.reg .c)
  | .rlcD => .rot .rlc (.reg .d)
  | .rlcE => .rot .rlc (.reg .e)
  | .rlcH => .rot .rlc (.reg .h)
  | .rlcL => .rot .rlc (.reg .l)
  | .rlcIndHl => .rot .rlc (.atHl)
  | .rlcA => .rot .rlc (.reg .a)
  | .rrcB => .rot .rrc (.reg .b)
  | .rrcC => .rot .rrc (.reg .c)
  | .rrcD => .rot .rrc (.reg .d)
  | .rrcE => .rot .rrc (.reg .e)
  | .rrcH => .rot .rrc (.reg .h)
  | .rrcL => .rot .rrc (.reg .l)
  | .rrcIndHl => .rot .rrc (.atHl)
  | .rrcA => .rot .rrc (.reg .a)
  | .rlB => .rot .rl (.reg .b)
  | .rlC => .rot .rl (.reg .c)
  | .rlD => .rot .rl (.reg .d)
  | .rlE => .rot .rl (.reg .e)
  | .rlH => .rot .rl (.reg .h)
  | .rlL => .rot .rl (.reg .l)
  | .rlIndHl => .rot .rl (.atHl)
  | .rlA => .rot .rl (.reg .a)
  | .rrB => .rot .rr (.reg .b)
  | .rrC => .rot .rr (.reg .c)
  | .rrD => .rot .rr (.reg .d)
  | .rrE => .rot .rr (.reg .e)
  | .rrH => .rot .rr (.reg .h)
  | .rrL => .rot .rr (.reg .l)
  | .rrIndHl => .rot .rr (.atHl)
  | .rrA => .rot .rr (.reg .a)
  | .slaB => .rot .sla (.reg .b)
  | .slaC => .rot .sla (.reg .c)
  | .slaD => .rot .sla (.reg .d)
  | .slaE => .rot .sla (.reg .e)
  | .slaH => .rot .sla (.reg .h)
  | .slaL => .rot .sla (.reg .l)
  | .slaIndHl => .rot .sla (.atHl)
  | .slaA => .rot .sla (.reg .a)
  | .sraB => .rot .sra (.reg .b)
  | .sraC => .rot .sra (.reg .c)
  | .sraD => .rot .sra (.reg .d)
  | .sraE => .rot .sra (.reg .e)
  | .sraH => .rot .sra (.reg .h)
  | .sraL => .rot .sra (.reg .l)
  | .sraIndHl => .rot .sra (.atHl)
  | .sraA => .rot .sra (.reg .a)
  | .swapB => .rot .swap (.reg .b)
  | .swapC => .rot .swap (.reg .c)
  | .swapD => .rot .swap (.reg .d)
  | .swapE => .rot .swap (.reg .e)
  | .swapH => .rot .swap (.reg .h)
  | .swapL => .rot .swap (.reg .l)
  | .swapIndHl => .rot .swap (.atHl)
  | .swapA => .rot .swap (.reg .a)
  | .srlB => .rot .srl (.reg .b)
  | .srlC => .rot .srl (.reg .c)
  | .srlD => .rot .srl (.reg .d)
  | .srlE => .rot .srl (.reg .e)
  | .srlH => .rot .srl (.reg .h)
  | .srlL => .rot .srl (.reg .l)
  | .srlIndHl => .rot .srl (.atHl)
  | .srlA => .rot .srl (.reg .a)
  | .bit0B => .bit 0 (.reg .b)
  | .bit0C => .bit 0 (.reg .c)
  | .bit0D => .bit 0 (.reg .d)
  | .bit0E => .bit 0 (.reg .e)
  | .bit0H => .bit 0 (.reg .h)
  | .bit0L => .bit 0 (.reg .l)
  | .bit0IndHl => .bit 0 (.atHl)
  | .bit0A => .bit 0 (.reg .a)
  | .bit1B => .bit 1 (.reg .b)
  | .bit1C => .bit 1 (.reg .c)
  | .bit1D => .bit 1 (.reg .d)
  | .bit1E => .bit 1 (.reg .e)
  | .bit1H => .bit 1 (.reg .h)
  | .bit1L => .bit 1 (.reg .l)
  | .bit1IndHl => .bit 1 (.atHl)
  | .bit1A => .bit 1 (.reg .a)
  | .bit2B => .bit 2 (.reg .b)
  | .bit2C => .bit 2 (.reg .c)
  | .bit2D => .bit 2 (.reg .d)
  | .bit2E => .bit 2 (.reg .e)
  | .bit2H => .bit 2 (.reg .h)
  | .bit2L => .bit 2 (.reg .l)
  | .bit2IndHl => .bit 2 (.atHl)
  | .bit2A => .bit 2 (.reg .a)
  | .bit3B => .bit 3 (.reg .b)
  | .bit3C => .bit 3 (.reg .c)
  | .bit3D => .bit 3 (.reg .d)
  | .bit3E => .bit 3 (.reg .e)
  | .bit3H => .bit 3 (.reg .h)
  | .bit3L => .bit 3 (.reg .l)
  | .bit3IndHl => .bit 3 (.atHl)
  | .bit3A => .bit 3 (.reg .a)
  | .bit4B => .bit 4 (.reg .b)
  | .bit4C => .bit 4 (.reg .c)
  | .bit4D => .bit 4 (.reg .d)
  | .bit4E => .bit 4 (.reg .e)
  | .bit4H => .bit 4 (.reg .h)
  | .bit4L => .bit 4 (.reg .l)
  | .bit4IndHl => .bit 4 (.atHl)
  | .bit4A => .bit 4 (.reg .a)
  | .bit5B => .bit 5 (.reg .b)
  | .bit5C => .bit 5 (.reg .c)
  | .bit5D => .bit 5 (.reg .d)
  | .bit5E => .bit 5 (.reg .e)
  | .bit5H => .bit 5 (.reg .h)
  | .bit5L => .bit 5 (.reg .l)
  | .bit5IndHl => .bit 5 (.atHl)
  | .bit5A => .bit 5 (.reg .a)
  | .bit6B => .bit 6 (.reg .b)
  | .bit6C => .bit 6 (.reg .c)
  | .bit6D => .bit 6 (.reg .d)
  | .bit6E => .bit 6 (.reg .e)
  | .bit6H => .bit 6 (.reg .h)
  | .bit6L => .bit 6 (.reg .l)
  | .bit6IndHl => .bit 6 (.atHl)
  | .bit6A => .bit 6 (.reg .a)
  | .bit7B => .bit 7 (.reg .b)
  | .bit7C => .bit 7 (.reg .c)
  | .bit7D => .bit 7 (.reg .d)
  | .bit7E => .bit 7 (.reg .e)
  | .bit7H => .bit 7 (.reg .h)
  | .bit7L => .bit 7 (.reg .l)
  | .bit7IndHl => .bit 7 (.atHl)
  | .bit7A => .bit 7 (.reg .a)
  | .res0B => .res 0 (.reg .b)
  | .res0C => .res 0 (.reg .c)
  | .res0D => .res 0 (.reg .d)
  | .res0E => .res 0 (.reg .e)
  | .res0H => .res 0 (.reg .h)
  | .res0L => .res 0 (.reg .l)
  | .res0IndHl => .res 0 (.atHl)
  | .res0A => .res 0 (.reg .a)
  | .res1B => .res 1 (.reg .b)
  | .res1C => .res 1 (.reg .c)
  | .res1D => .res 1 (.reg .d)
  | .res1E => .res 1 (.reg .e)
  | .res1H => .res 1 (.reg .h)
  | .res1L => .res 1 (.reg .l)
  | .res1IndHl => .res 1 (.atHl)
  | .res1A => .res 1 (.reg .a)
  | .res2B => .res 2 (.reg .b)
  | .res2C => .res 2 (.reg .c)
  | .res2D => .res 2 (.reg .d)
  | .res2E => .res 2 (.reg .e)
  | .res2H => .res 2 (.reg .h)
  | .res2L => .res 2 (.reg .l)
  | .res2IndHl => .res 2 (.atHl)
  | .res2A => .res 2 (.reg .a)
  | .res3B => .res 3 (.reg .b)
  | .res3C => .res 3 (.reg .c)
  | .res3D => .res 3 (.reg .d)
  | .res3E => .res 3 (.reg .e)
  | .res3H => .res 3 (.reg .h)
  | .res3L => .res 3 (.reg .l)
  | .res3IndHl => .res 3 (.atHl)
  | .res3A => .res 3 (.reg .a)
  | .res4B => .res 4 (.reg .b)
  | .res4C => .res 4 (.reg .c)
  | .res4D => .res 4 (.reg .d)
  | .res4E => .res 4 (.reg .e)
  | .res4H => .res 4 (.reg .h)
  | .res4L => .res 4 (.reg .l)
  | .res4IndHl => .res 4 (.atHl)
  | .res4A => .res 4 (.reg .a)
  | .res5B => .res 5 (.reg .b)
  | .res5C => .res 5 (.reg .c)
  | .res5D => .res 5 (.reg .d)
  | .res5E => .res 5 (.reg .e)
  | .res5H => .res 5 (.reg .h)
  | .res5L => .res 5 (.reg .l)
  | .res5IndHl => .res 5 (.atHl)
  | .res5A => .res 5 (.reg .a)
  | .res6B => .res 6 (.reg .b)
  | .res6C => .res 6 (.reg .c)
  | .res6D => .res 6 (.reg .d)
  | .res6E => .res 6 (.reg .e)
  | .res6H => .res 6 (.reg .h)
  | .res6L => .res 6 (.reg .l)
  | .res6IndHl => .res 6 (.atHl)
  | .res6A => .res 6 (.reg .a)
  | .res7B => .res 7 (.reg .b)
  | .res7C => .res 7 (.reg .c)
  | .res7D => .res 7 (.reg .d)
  | .res7E => .res 7 (.reg .e)
  | .res7H => .res 7 (.reg .h)
  | .res7L => .res 7 (.reg .l)
  | .res7IndHl => .res 7 (.atHl)
  | .res7A => .res 7 (.reg .a)
  | .set0B => .set 0 (.reg .b)
  | .set0C => .set 0 (.reg .c)
  | .set0D => .set 0 (.reg .d)
  | .set0E => .set 0 (.reg .e)
  | .set0H => .set 0 (.reg .h)
  | .set0L => .set 0 (.reg .l)
  | .set0IndHl => .set 0 (.atHl)
  | .set0A => .set 0 (.reg .a)
  | .set1B => .set 1 (.reg .b)
  | .set1C => .set 1 (.reg .c)
  | .set1D => .set 1 (.reg .d)
  | .set1E => .set 1 (.reg .e)
  | .set1H => .set 1 (.reg .h)
  | .set1L => .set 1 (.reg .l)
  | .set1IndHl => .set 1 (.atHl)
  | .set1A => .set 1 (.reg .a)
  | .set2B => .set 2 (.reg .b)
  | .set2C => .set 2 (.reg .c)
  | .set2D => .set 2 (.reg .d)
  | .set2E => .set 2 (.reg .e)
  | .set2H => .set 2 (.reg .h)
  | .set2L => .set 2 (.reg .l)
  | .set2IndHl => .set 2 (.atHl)
  | .set2A => .set 2 (.reg .a)
  | .set3B => .set 3 (.reg .b)
  | .set3C => .set 3 (.reg .c)
  | .set3D => .set 3 (.reg .d)
  | .set3E => .set 3 (.reg .e)
  | .set3H => .set 3 (.reg .h)
  | .set3L => .set 3 (.reg .l)
  | .set3IndHl => .set 3 (.atHl)
  | .set3A => .set 3 (.reg .a)
  | .set4B => .set 4 (.reg .b)
  | .set4C => .set 4 (.reg .c)
  | .set4D => .set 4 (.reg .d)
  | .set4E => .set 4 (.reg .e)
  | .set4H => .set 4 (.reg .h)
  | .set4L => .set 4 (.reg .l)
  | .set4IndHl => .set 4 (.atHl)
  | .set4A => .set 4 (.reg .a)
  | .set5B => .set 5 (.reg .b)
  | .set5C => .set 5 (.reg .c)
  | .set5D => .set 5 (.reg .d)
  | .set5E => .set 5 (.reg .e)
  | .set5H => .set 5 (.reg .h)
  | .set5L => .set 5 (.reg .l)
  | .set5IndHl => .set 5 (.atHl)
  | .set5A => .set 5 (.reg .a)
  | .set6B => .set 6 (.reg .b)
  | .set6C => .set 6 (.reg .c)
  | .set6D => .set 6 (.reg .d)
  | .set6E => .set 6 (.reg .e)
  | .set6H => .set 6 (.reg .h)
  | .set6L => .set 6 (.reg .l)
  | .set6IndHl => .set 6 (.atHl)
  | .set6A => .set 6 (.reg .a)
  | .set7B => .set 7 (.reg .b)
  | .set7C => .set 7 (.reg .c)
  | .set7D => .set 7 (.reg .d)
  | .set7E => .set 7 (.reg .e)
  | .set7H => .set 7 (.reg .h)
  | .set7L => .set 7 (.reg .l)
  | .set7IndHl => .set 7 (.atHl)
  | .set7A => .set 7 (.reg .a)

/-- The form of what an instruction does: the prefix row stands for the extended row its second byte names (R255). -/
def Instr.opForm (i : Instr) : Form :=
  match i.form with
  | .cbByte op2 => (decodeExtended op2).form
  | x => x

end Sys2Proof
end

