-- ==== Sys2Proof/Safety.lean ====
section
/-! DEFINITION. What the statements call a sound state and a safe step. -/

namespace Sys2Proof.Machine

/-- The sizes of a cartridge (00_scope.md R8): a power-of-two number of ROM banks, at least 2, and one of the six RAM sizes. -/
def sizesLegal (romBanks ramSize : Nat) : Prop :=
  (∃ k, romBanks = 2 ^ (k + 1)) ∧ ramSize ∈ [0, 0x800, 0x2000, 0x8000, 0x10000, 0x20000]

/-- The invariant of the machine: the low nibble of F is zero (10_state.md R22), the sizes are legal (R8, R35, R36), and
every storage array is in its canonical form and inside its size (R33 to R36). -/
structure State.Inv (s : State) : Prop where
  lowNibble : s.f &&& 0x0F = 0
  sizes : sizesLegal s.romBanks s.ramSize
  wram : s.wram.wf 0x2000 = true
  hram : s.hram.wf 127 = true
  rom : s.rom.wf (0x4000 * s.romBanks) = true
  cartRam : s.cartRam.wf s.ramSize = true

/-- The step ends in a next state: it reached no fatal stop (60_exceptions.md R303, R304). -/
def safeStep (s : State) : Prop := ∃ t, step s = .next t

end Sys2Proof.Machine
end

