-- ==== Sys2Proof/Certificates/Slice0/Obligations.lean ====
section
/-! DEFINITION. The statements for the provers, and the vocabulary they are written in: the tables and formulas of the
spec's rules, written again from the rules and not from the machine's own definitions. -/

namespace Sys2Proof.Spec

open Sys2Proof.Machine

/-! ### Operand numbers (R136 to R141) and opcode bytes -/

/-- The number of a register in the `r8` map (R136). -/
def number : Reg8 → Nat
  | .b => 0
  | .c => 1
  | .d => 2
  | .e => 3
  | .h => 4
  | .l => 5
  | .a => 7

/-- The number of an `r8` operand (R136). -/
def operandNumber : Operand8 → Nat
  | .reg r => number r
  | .atHl => 6

/-- The number of a pair in the `rr` map (R137). -/
def pairNumber : Pair → Nat
  | .bc => 0
  | .de => 1
  | .hl => 2
  | .sp => 3

/-- The number of a pair in the `qq` map (R138). -/
def stackPairNumber : StackPair → Nat
  | .bc => 0
  | .de => 1
  | .hl => 2
  | .af => 3

/-- The number of a condition (R139). -/
def condNumber : Cond → Nat
  | .nz => 0
  | .z => 1
  | .nc => 2
  | .c => 3

/-- The number of an accumulator operation (R141). -/
def aluNumber : AluOp → Nat
  | .add => 0
  | .adc => 1
  | .sub => 2
  | .sbc => 3
  | .and => 4
  | .xor => 5
  | .or => 6
  | .cp => 7

/-- The number of a rotate operation (R141). -/
def rotNumber : RotOp → Nat
  | .rlc => 0
  | .rrc => 1
  | .rl => 2
  | .rr => 3
  | .sla => 4
  | .sra => 5
  | .swap => 6
  | .srl => 7

/-- The `r8` operand of a number (R136). -/
def operandOf : Nat → Operand8
  | 0 => .reg .b
  | 1 => .reg .c
  | 2 => .reg .d
  | 3 => .reg .e
  | 4 => .reg .h
  | 5 => .reg .l
  | 6 => .atHl
  | _ => .reg .a

/-- The `rr` operand of a number (R137). -/
def pairOf : Nat → Pair
  | 0 => .bc
  | 1 => .de
  | 2 => .hl
  | _ => .sp

/-- The `qq` operand of a number (R138). -/
def stackPairOf : Nat → StackPair
  | 0 => .bc
  | 1 => .de
  | 2 => .hl
  | _ => .af

/-- The condition of a number (R139). -/
def condOf : Nat → Cond
  | 0 => .nz
  | 1 => .z
  | 2 => .nc
  | _ => .c

/-- The accumulator operation of a number (R141). -/
def aluOf : Nat → AluOp
  | 0 => .add
  | 1 => .adc
  | 2 => .sub
  | 3 => .sbc
  | 4 => .and
  | 5 => .xor
  | 6 => .or
  | _ => .cp

/-- The rotate operation of a number (R141). -/
def rotOf : Nat → RotOp
  | 0 => .rlc
  | 1 => .rrc
  | 2 => .rl
  | 3 => .rr
  | 4 => .sla
  | 5 => .sra
  | 6 => .swap
  | _ => .srl

/-- The address of the loads and stores of A in column z = 2 (R143). -/
def indirectOf : Nat → AddrMode
  | 0 => .bc
  | 1 => .de
  | 2 => .hlInc
  | _ => .hlDec

/-- The extended opcode map by the fields x, y, z of the byte (R144). -/
def extendedMap (op2 : Byte) : Form :=
  let y := op2.toNat / 8 % 8
  let r := operandOf (op2.toNat % 8)
  match op2.toNat / 64 with
  | 0 => .rot (rotOf y) r
  | 1 => .bit (Fin.ofNat 8 y) r
  | 2 => .res (Fin.ofNat 8 y) r
  | _ => .set (Fin.ofNat 8 y) r

/-- The quarter x = 0 of the primary opcode map (R143). -/
def primaryMap0 (y z p q : Nat) (n : Byte) (nn : Word) : Form :=
  match z with
  | 0 => if y = 0 then .nop else if y = 1 then .storeSp nn else if y = 2 then .stop else if y = 3 then .jr n
    else .jrCc (condOf (y - 4)) n
  | 1 => if q = 0 then .ld16 (pairOf p) nn else .addHl (pairOf p)
  | 2 => if q = 0 then .storeA (indirectOf p) else .loadA (indirectOf p)
  | 3 => if q = 0 then .inc16 (pairOf p) else .dec16 (pairOf p)
  | 4 => .inc8 (operandOf y)
  | 5 => .dec8 (operandOf y)
  | 6 => .ld8n (operandOf y) n
  | _ => if y < 4 then .rotA (rotOf y) else if y = 4 then .daa else if y = 5 then .cpl else if y = 6 then .scf else .ccf

/-- The quarter x = 3 of the primary opcode map, but for the prefix (R143). -/
def primaryMap3 (op : Byte) (y z p q : Nat) (n : Byte) (nn : Word) : Form :=
  match z with
  | 0 => if y < 4 then .retCc (condOf y) else if y = 4 then .storeA (.high n) else if y = 5 then .addSpE n
    else if y = 6 then .loadA (.high n) else .ldHlSpE n
  | 1 => if q = 0 then .pop (stackPairOf p) else if p = 0 then .ret else if p = 1 then .reti else if p = 2 then .jpHl
    else .ldSpHl
  | 2 => if y < 4 then .jpCc (condOf y) nn else if y = 4 then .storeA .highC else if y = 5 then .storeA (.abs nn)
    else if y = 6 then .loadA .highC else .loadA (.abs nn)
  | 3 => if y = 0 then .jp nn else if y = 6 then .di else if y = 7 then .ei else .illegal op
  | 4 => if y < 4 then .callCc (condOf y) nn else .illegal op
  | 5 => if q = 0 then .push (stackPairOf p) else if p = 0 then .call nn else .illegal op
  | 6 => .aluN (aluOf y) n
  | _ => .rst (Fin.ofNat 8 y)

/-- The primary opcode map by the fields x, y, z, p, q of the opcode byte (R131, R143); `n` and `nn` are the immediates. -/
def primaryMap (op n : Byte) (nn : Word) : Form :=
  let y := op.toNat / 8 % 8
  let z := op.toNat % 8
  let p := op.toNat / 16 % 4
  let q := op.toNat / 8 % 2
  match op.toNat / 64 with
  | 0 => primaryMap0 y z p q n nn
  | 1 => if y = 6 ∧ z = 6 then .halt else .ld8 (operandOf y) (operandOf z)
  | 2 => .alu (aluOf y) (operandOf z)
  | _ => primaryMap3 op y z p q n nn

/-- The byte with a given value. -/
def byte (n : Nat) : Byte := BitVec.ofNat 8 n

/-- `addr` lies in `first` to `last`, both included. -/
def within (addr : Word) (first last : Nat) : Prop := first ≤ addr.toNat ∧ addr.toNat ≤ last

/-! ### Flags (R22) and conditions (R246) -/

/-- F from its four flags: Z bit 7, N bit 6, H bit 5, C bit 4, the rest 0 (R22). -/
def flags (z n h c : Bool) : Byte := byte (128 * z.toNat + 64 * n.toNat + 32 * h.toNat + 16 * c.toNat)

def flagZ (s : State) : Bool := s.f.getLsbD 7
def flagN (s : State) : Bool := s.f.getLsbD 6
def flagH (s : State) : Bool := s.f.getLsbD 5
def flagC (s : State) : Bool := s.f.getLsbD 4

/-- `cond(c)` (R246). -/
def holds (cc : Cond) (s : State) : Prop :=
  match cc with
  | .nz => flagZ s = false
  | .z => flagZ s = true
  | .nc => flagC s = false
  | .c => flagC s = true

/-! ### Fetch, reads and writes -/

/-- The state when the effect of `i` begins, from the state `s` in which PC is the address of `i`: PC is past the
instruction (R28) and one quantum is charged for each of its bytes (R150, R62). -/
def fetched (i : Instr) (s : State) : State :=
  { s with
    pc := s.pc + BitVec.ofNat 16 (encode i).length
    tick := s.tick + BitVec.ofNat 8 (4 * (encode i).length) }

/-- A write of `v` to `addr` is the illegal write to the DMA register (R72). -/
def badDma (addr : Word) (v : Byte) : Prop := addr = 0xFF46 ∧ (v.toNat < 0x80 ∨ 0xDF < v.toNat)

/-- `i`, encoded as `code`, ends in one byte store of `v` at `addr` made in the state `base`; `after` is what the
instruction still does once the byte is stored. With an illegal byte for the DMA register the run ends (R304). -/
def storesByte (i : Instr) (s : State) (code : List Byte) (base : State) (addr : Word) (v : Byte)
    (after : State → State) : Prop :=
  encode i = code ∧
  (¬badDma addr v → ∃ t, memWrite addr v base = .next t ∧ exec i (fetched i s) = .next (after t)) ∧
  (badDma addr v → exec i (fetched i s) = .fault (.dmaSource v))

/-- `i`, encoded as `code`, ends in the store of `v` at `addr` (low byte) and `addr + 1` (high byte), the low byte first
(R75), made in the state `base`; `after` is what the instruction still does then. -/
def storesWord (i : Instr) (s : State) (code : List Byte) (base : State) (addr v : Word)
    (after : State → State) : Prop :=
  encode i = code ∧
  (¬badDma addr (loByte v) → ¬badDma (addr + 1) (hiByte v) →
    ∃ m t, memWrite addr (loByte v) base = .next m ∧ memWrite (addr + 1) (hiByte v) m = .next t ∧
      exec i (fetched i s) = .next (after t)) ∧
  (badDma addr (loByte v) → exec i (fetched i s) = .fault (.dmaSource (loByte v))) ∧
  (¬badDma addr (loByte v) → badDma (addr + 1) (hiByte v) → exec i (fetched i s) = .fault (.dmaSource (hiByte v)))

/-- The address of a load or store of A (R165 to R178). -/
def address : AddrMode → State → Word
  | .bc, s => joinBytes s.b s.c
  | .de, s => joinBytes s.d s.e
  | .hlInc, s => joinBytes s.h s.l
  | .hlDec, s => joinBytes s.h s.l
  | .abs nn, _ => nn
  | .highC, s => BitVec.ofNat 16 (0xFF00 + s.c.toNat)
  | .high n, _ => BitVec.ofNat 16 (0xFF00 + n.toNat)

/-- HL after a load or store of A (R165 to R178). -/
def hlAfter : AddrMode → State → Word
  | .hlInc, s => joinBytes s.h s.l + 1
  | .hlDec, s => joinBytes s.h s.l - 1
  | _, s => joinBytes s.h s.l

/-- The bytes of a load of A (R165, R166, R169, R171, R173, R175, R176). -/
def loadCode : AddrMode → List Byte
  | .bc => [0x0A]
  | .de => [0x1A]
  | .hlInc => [0x2A]
  | .hlDec => [0x3A]
  | .abs nn => [0xFA, loByte nn, hiByte nn]
  | .highC => [0xF2]
  | .high n => [0xF0, n]

/-- The bytes of a store of A (R167, R168, R170, R172, R174, R177, R178). -/
def storeCode : AddrMode → List Byte
  | .bc => [0x02]
  | .de => [0x12]
  | .hlInc => [0x22]
  | .hlDec => [0x32]
  | .abs nn => [0xEA, loByte nn, hiByte nn]
  | .highC => [0xE2]
  | .high n => [0xE0, n]

/-! ### Results -/

/-- `Add8` (R190): the sum and F. -/
def addResult (a b : Byte) (cin : Nat) : Byte × Byte :=
  let r := a.toNat + b.toNat + cin
  (byte r, flags (decide (r % 256 = 0)) false (decide (0xF < a.toNat % 16 + b.toNat % 16 + cin)) (decide (0xFF < r)))

/-- `Sub8` (R191): the difference and F. -/
def subResult (a b : Byte) (cin : Nat) : Byte × Byte :=
  let r := byte (512 + a.toNat - b.toNat - cin)
  (r, flags (decide (r.toNat = 0)) true (decide (a.toNat % 16 < b.toNat % 16 + cin)) (decide (a.toNat < b.toNat + cin)))

/-- What an accumulator operation makes of A and an operand: the new A and the new F (R190 to R215). -/
def aluResult (o : AluOp) (s : State) (v : Byte) : Byte × Byte :=
  match o with
  | .add => addResult s.a v 0
  | .adc => addResult s.a v (flagC s).toNat
  | .sub => subResult s.a v 0
  | .sbc => subResult s.a v (flagC s).toNat
  | .and => (s.a &&& v, flags (decide ((s.a &&& v).toNat = 0)) false true false)
  | .xor => (s.a ^^^ v, flags (decide ((s.a ^^^ v).toNat = 0)) false false false)
  | .or => (s.a ||| v, flags (decide ((s.a ||| v).toNat = 0)) false false false)
  | .cp => (s.a, (subResult s.a v 0).2)

/-- The register, (HL) and immediate forms of one accumulator operation: encodings, A, F, PC and cycles. -/
def accumulates (o : AluOp) : Prop :=
  (∀ i s r, i.opForm = .alu o (.reg r) →
    encode i = [byte (128 + 8 * aluNumber o + number r)] ∧
    exec i (fetched i s) = .next { s with
      a := (aluResult o s (s.reg r)).1, f := (aluResult o s (s.reg r)).2, pc := s.pc + 1, tick := s.tick + 4 }) ∧
  (∀ i s, i.opForm = .alu o .atHl →
    let x := memRead (joinBytes s.h s.l) (fetched i s)
    encode i = [byte (128 + 8 * aluNumber o + 6)] ∧ x.2.pc = s.pc + 1 ∧ x.2.tick = s.tick + 8 ∧
    exec i (fetched i s) = .next { x.2 with a := (aluResult o s x.1).1, f := (aluResult o s x.1).2 }) ∧
  (∀ i s n, i.opForm = .aluN o n →
    encode i = [byte (192 + 8 * aluNumber o + 6), n] ∧
    exec i (fetched i s) = .next { s with
      a := (aluResult o s n).1, f := (aluResult o s n).2, pc := s.pc + 2, tick := s.tick + 8 })

/-- `i`, encoded as `code`, replaces its operand `x` by `result` of it and F by `newF` of it: in a register at once, at
(HL) by one read and one write of the same address. -/
def rewrites (i : Instr) (s : State) (x : Operand8) (code : List Byte) (result newF : Byte → Byte) : Prop :=
  match x with
  | .reg r =>
    encode i = code ∧
    exec i (fetched i s) = .next { s.setReg r (result (s.reg r)) with
      f := newF (s.reg r), pc := s.pc + BitVec.ofNat 16 code.length, tick := s.tick + BitVec.ofNat 8 (4 * code.length) }
  | .atHl =>
    let x := memRead (joinBytes s.h s.l) (fetched i s)
    storesByte i s code x.2 (joinBytes s.h s.l) (result x.1) fun t => { t with f := newF x.1 }

/-- The bit movement of a rotate, shift or swap, `carry` being F.C before it (R261 to R276). -/
def rotated (o : RotOp) (v : Byte) (carry : Bool) : Byte :=
  let n := v.toNat
  match o with
  | .rlc => byte (2 * n + n / 128)
  | .rrc => byte (n / 2 + 128 * (n % 2))
  | .rl => byte (2 * n + carry.toNat)
  | .rr => byte (n / 2 + 128 * carry.toNat)
  | .sla => byte (2 * n)
  | .sra => byte (n / 2 + 128 * (n / 128))
  | .swap => byte (16 * (n % 16) + n / 16)
  | .srl => byte (n / 2)

/-- "The bit shifted out" (R260): bit 7 of a left movement, bit 0 of a right one, none of SWAP. -/
def shiftedOut (o : RotOp) (v : Byte) : Bool :=
  match o with
  | .rlc => v.getLsbD 7
  | .rl => v.getLsbD 7
  | .sla => v.getLsbD 7
  | .rrc => v.getLsbD 0
  | .rr => v.getLsbD 0
  | .sra => v.getLsbD 0
  | .srl => v.getLsbD 0
  | .swap => false

/-- One of the eight operations of the extended space on every operand (R260 to R276). -/
def rotates (o : RotOp) : Prop :=
  ∀ i s x, i.opForm = .rot o x →
    rewrites i s x [0xCB, byte (8 * rotNumber o + operandNumber x)] (fun v => rotated o v (flagC s))
      (fun v => flags (decide ((rotated o v (flagC s)).toNat = 0)) false false (shiftedOut o v))

/-- The decimal adjustment (R230): the new A and the new F. -/
def decimalAdjust (a : Byte) (n h c : Bool) : Byte × Byte :=
  if n = false then
    let high : Bool := c || decide (0x99 < a.toNat)
    let low : Bool := h || decide (0x09 < a.toNat % 16)
    let r := byte (a.toNat + 0x60 * high.toNat + 0x06 * low.toNat)
    (r, flags (decide (r.toNat = 0)) false false high)
  else
    let r := byte (a.toNat + 256 - 0x60 * c.toNat - 0x06 * h.toNat)
    (r, flags (decide (r.toNat = 0)) true false c)

/-- Both digits of a packed BCD byte are decimal digits. -/
def isBcd (x : Byte) : Prop := x.toNat / 16 ≤ 9 ∧ x.toNat % 16 ≤ 9

/-- The number a packed BCD byte stands for. -/
def bcdValue (x : Byte) : Nat := 10 * (x.toNat / 16) + x.toNat % 16

/-- `AddSpE(e)` (R224): the sum and F. -/
def offsetSum (sp : Word) (e : Byte) : Word × Byte :=
  (BitVec.ofInt 16 (sp.toNat + e.toInt),
   flags false false (decide (0x0F < sp.toNat % 16 + e.toNat % 16)) (decide (0xFF < sp.toNat % 256 + e.toNat)))

/-! ### The router -/

/-- The addresses without an owner (R63, R70). -/
def unmapped (addr : Word) : Prop :=
  within addr 0xFEA0 0xFEFF ∨ within addr 0xFF01 0xFF03 ∨ within addr 0xFF08 0xFF0E ∨ within addr 0xFF10 0xFF3F ∨
    within addr 0xFF4C 0xFF7F

/-- The windows of the peripherals (R63, R71). -/
def ownedBy (d : Device) (addr : Word) : Prop :=
  match d with
  | .video => within addr 0x8000 0x9FFF ∨ within addr 0xFE00 0xFE9F ∨ within addr 0xFF40 0xFF4B
  | .timer => within addr 0xFF04 0xFF07
  | .joypad => addr.toNat = 0xFF00

/-- An access of the address reads and writes one byte `get`, `set` of the router (R65 to R69). -/
def plainByte (addr : Word) (get : State → Byte) (set : State → Byte → State) : Prop :=
  ∀ s v, routerRead addr s = (get s, s) ∧ routerWrite addr v s = .next (set s v)

/-- The sizes are those a cartridge can have (R8). -/
def legalSizes (s : State) : Prop := sizesLegal s.romBanks s.ramSize

/-- The bank number before the mask (R85). -/
def bankNumber (s : State) : Nat :=
  let n := if s.bankMode = false then 32 * s.bankHi.toNat + s.bankLo.toNat else s.bankLo.toNat
  if n % 32 = 0 then n + 1 else n

/-- The cell of the core that a write to `addr` changes (R65 to R69, R80, R90): ROM cells are not written. -/
def writtenCell (s : State) (addr : Word) : Option Cell :=
  match cellOf s addr with
  | some (.rom _) => none
  | x => x

/-! ### What an instruction writes -/

/-- The registers a frame speaks of. -/
inductive RegName where
  | a | b | c | d | e | h | l | sp | pc | ime | halted
  deriving DecidableEq, Repr

/-- The content of a register. -/
def regValue (x : RegName) (s : State) : Nat :=
  match x with
  | .a => s.a.toNat
  | .b => s.b.toNat
  | .c => s.c.toNat
  | .d => s.d.toNat
  | .e => s.e.toNat
  | .h => s.h.toNat
  | .l => s.l.toNat
  | .sp => s.sp.toNat
  | .pc => s.pc.toNat
  | .ime => s.ime.toNat
  | .halted => s.halted.toNat

/-- The register an `r8` operand is; none for (HL). -/
def operandRegs : Operand8 → List RegName
  | .reg .b => [.b]
  | .reg .c => [.c]
  | .reg .d => [.d]
  | .reg .e => [.e]
  | .reg .h => [.h]
  | .reg .l => [.l]
  | .reg .a => [.a]
  | .atHl => []

/-- The registers of an `rr` operand. -/
def pairRegs : Pair → List RegName
  | .bc => [.b, .c]
  | .de => [.d, .e]
  | .hl => [.h, .l]
  | .sp => [.sp]

/-- The registers of a `qq` operand; F is in the flag frame. -/
def stackPairRegs : StackPair → List RegName
  | .bc => [.b, .c]
  | .de => [.d, .e]
  | .hl => [.h, .l]
  | .af => [.a]

/-- HL where an address form steps it. -/
def steppedRegs : AddrMode → List RegName
  | .hlInc => [.h, .l]
  | .hlDec => [.h, .l]
  | _ => []

/-- The registers an instruction of a form writes: its destination, SP of the stack instructions, HL of the post-modify
forms, PC of the transfers, IME and halted of the system instructions. -/
def writtenRegs : Form → List RegName
  | .ld8 dst _ => operandRegs dst
  | .ld8n dst _ => operandRegs dst
  | .loadA m => .a :: steppedRegs m
  | .storeA m => steppedRegs m
  | .ld16 p _ => pairRegs p
  | .storeSp _ => []
  | .ldSpHl => [.sp]
  | .ldHlSpE _ => [.h, .l]
  | .push _ => [.sp]
  | .pop q => .sp :: stackPairRegs q
  | .alu o _ => if o = .cp then [] else [.a]
  | .aluN o _ => if o = .cp then [] else [.a]
  | .inc8 x => operandRegs x
  | .dec8 x => operandRegs x
  | .addHl _ => [.h, .l]
  | .inc16 p => pairRegs p
  | .dec16 p => pairRegs p
  | .addSpE _ => [.sp]
  | .nop => []
  | .rotA _ => [.a]
  | .daa => [.a]
  | .cpl => [.a]
  | .scf => []
  | .ccf => []
  | .jp _ => [.pc]
  | .jpCc _ _ => [.pc]
  | .jpHl => [.pc]
  | .jr _ => [.pc]
  | .jrCc _ _ => [.pc]
  | .call _ => [.pc, .sp]
  | .callCc _ _ => [.pc, .sp]
  | .ret => [.pc, .sp]
  | .retCc _ => [.pc, .sp]
  | .reti => [.pc, .sp, .ime]
  | .rst _ => [.pc, .sp]
  | .halt => [.halted]
  | .stop => []
  | .di => [.ime]
  | .ei => [.ime]
  | .illegal _ => []
  | .cbByte _ => []
  | .rot _ x => operandRegs x
  | .bit _ _ => []
  | .res _ x => operandRegs x
  | .set _ x => operandRegs x

/-- What an instruction does to one flag: the letters of the "flags" column of the opcode table. -/
inductive FlagRule where
  /-- `-`: unchanged. -/
  | kept
  /-- `0`. -/
  | zero
  /-- `1`. -/
  | one
  /-- The flag's own letter: computed. -/
  | computed
  deriving DecidableEq, Repr

/-- The "flags" column of the opcode table: Z, N, H, C. -/
def flagRules : Form → FlagRule × FlagRule × FlagRule × FlagRule
  | .alu .add _ => (.computed, .zero, .computed, .computed)
  | .alu .adc _ => (.computed, .zero, .computed, .computed)
  | .alu .sub _ => (.computed, .one, .computed, .computed)
  | .alu .sbc _ => (.computed, .one, .computed, .computed)
  | .alu .and _ => (.computed, .zero, .one, .zero)
  | .alu .xor _ => (.computed, .zero, .zero, .zero)
  | .alu .or _ => (.computed, .zero, .zero, .zero)
  | .alu .cp _ => (.computed, .one, .computed, .computed)
  | .aluN .add _ => (.computed, .zero, .computed, .computed)
  | .aluN .adc _ => (.computed, .zero, .computed, .computed)
  | .aluN .sub _ => (.computed, .one, .computed, .computed)
  | .aluN .sbc _ => (.computed, .one, .computed, .computed)
  | .aluN .and _ => (.computed, .zero, .one, .zero)
  | .aluN .xor _ => (.computed, .zero, .zero, .zero)
  | .aluN .or _ => (.computed, .zero, .zero, .zero)
  | .aluN .cp _ => (.computed, .one, .computed, .computed)
  | .inc8 _ => (.computed, .zero, .computed, .kept)
  | .dec8 _ => (.computed, .one, .computed, .kept)
  | .addHl _ => (.kept, .zero, .computed, .computed)
  | .addSpE _ => (.zero, .zero, .computed, .computed)
  | .ldHlSpE _ => (.zero, .zero, .computed, .computed)
  | .rotA _ => (.zero, .zero, .zero, .computed)
  | .daa => (.computed, .kept, .zero, .computed)
  | .cpl => (.kept, .one, .one, .kept)
  | .scf => (.kept, .zero, .zero, .one)
  | .ccf => (.kept, .zero, .zero, .computed)
  | .pop .af => (.computed, .computed, .computed, .computed)
  | .rot .swap _ => (.computed, .zero, .zero, .zero)
  | .rot _ _ => (.computed, .zero, .zero, .computed)
  | .bit _ _ => (.computed, .zero, .one, .kept)
  | _ => (.kept, .kept, .kept, .kept)

/-- One flag before and after obeys its letter. -/
def obeys (r : FlagRule) (before after : Bool) : Prop :=
  match r with
  | .kept => after = before
  | .zero => after = false
  | .one => after = true
  | .computed => True

/-- The addresses an instruction of a form stores a byte to, in the state its effect begins in. -/
def storedTo (f : Form) (s : State) : List Word :=
  let hl := joinBytes s.h s.l
  match f with
  | .ld8 .atHl _ => [hl]
  | .ld8n .atHl _ => [hl]
  | .storeA m => [addressOf m s]
  | .storeSp nn => [nn, nn + 1]
  | .push _ => [s.sp - 2, s.sp - 1]
  | .call _ => [s.sp - 2, s.sp - 1]
  | .callCc cc _ => if s.cond cc then [s.sp - 2, s.sp - 1] else []
  | .rst _ => [s.sp - 2, s.sp - 1]
  | .inc8 .atHl => [hl]
  | .dec8 .atHl => [hl]
  | .rot _ .atHl => [hl]
  | .res _ .atHl => [hl]
  | .set _ .atHl => [hl]
  | _ => []

/-- The four bank-controller registers hold the same. -/
def sameBanks (s t : State) : Prop :=
  t.ramEnable = s.ramEnable ∧ t.bankLo = s.bankLo ∧ t.bankHi = s.bankHi ∧ t.bankMode = s.bankMode

/-- The reports an instruction makes, in the state its effect begins in (R302). -/
def reportsOf (f : Form) (s : State) : List Report :=
  match f with
  | .stop => [.stopExecuted (s.pc - 1)]
  | .illegal op => [.illegalOpcode op (s.pc - 1)]
  | _ => []

/-- The cycle table of R356, conditions judged on the state before the instruction. -/
def cyclesOf (f : Form) (s : State) : Nat :=
  match f with
  | .ld8 (.reg _) (.reg _) => 4
  | .ld8 _ _ => 8
  | .ld8n (.reg _) _ => 8
  | .ld8n .atHl _ => 12
  | .loadA (.abs _) => 16
  | .loadA (.high _) => 12
  | .loadA _ => 8
  | .storeA (.abs _) => 16
  | .storeA (.high _) => 12
  | .storeA _ => 8
  | .ld16 _ _ => 12
  | .storeSp _ => 20
  | .ldSpHl => 4
  | .ldHlSpE _ => 8
  | .push _ => 16
  | .pop _ => 16
  | .alu _ (.reg _) => 4
  | .alu _ .atHl => 8
  | .aluN _ _ => 8
  | .inc8 (.reg _) => 4
  | .inc8 .atHl => 12
  | .dec8 (.reg _) => 4
  | .dec8 .atHl => 12
  | .addHl _ => 4
  | .inc16 _ => 4
  | .dec16 _ => 4
  | .addSpE _ => 8
  | .jp _ => 16
  | .jpCc cc _ => if s.cond cc then 16 else 12
  | .jpHl => 8
  | .jr _ => 12
  | .jrCc cc _ => if s.cond cc then 12 else 8
  | .call _ => 24
  | .callCc cc _ => if s.cond cc then 24 else 12
  | .ret => 16
  | .retCc cc => if s.cond cc then 16 else 4
  | .reti => 16
  | .rst _ => 16
  | .rot _ (.reg _) => 8
  | .rot _ .atHl => 16
  | .bit _ (.reg _) => 8
  | .bit _ .atHl => 12
  | .res _ (.reg _) => 8
  | .res _ .atHl => 16
  | .set _ (.reg _) => 8
  | .set _ .atHl => 16
  | _ => 4

/-! ### The step -/

/-- The start of a step (R300): no cycle charged, no report yet. -/
def started (s : State) : State := { s with tick := 0, cycles := 0, reports := [], deviceEvents := [] }

/-- Source `i` is the lowest-numbered bit set in `pending` (R311). -/
def isLowest (pending : Byte) (i : Fin 5) : Prop :=
  pending.getLsbD i.val = true ∧ ∀ k < i.val, pending.getLsbD k = false

/-- The pending set (R309). -/
def pending (s : State) : Byte := s.iflag &&& s.ienable &&& 0x1F

/-- The state after the device part of a step whose instruction part ended in `s` (R300, R73). -/
def deviceDone (s : State) : State := routerUpdate s.tick { s with cycles := s.tick.toNat }

/-- `n` steps. -/
def steps : Nat → State → Result
  | 0, s => .next s
  | n + 1, s =>
    match step s with
    | .next t => steps n t
    | x => x

end Sys2Proof.Spec

section

open Sys2Proof Sys2Proof.Machine Sys2Proof.Spec

/-! ### Encoding -/

/-- O1. Decoding the bytes of any well-formed instruction, whatever follows them, gives it back with every operand. -/
def Obligations.EncodedInstructionsDecodeBack : Prop :=
  ∀ (i : Instr) (rest : List Byte), i.wellFormed = true → decodeBytes (encode i ++ rest) = .ok (i, rest)

/-- O2. What the decoder reads from a list of bytes is well-formed and is encoded by exactly the bytes read. -/
def Obligations.DecodedInstructionsEncodeBack : Prop :=
  ∀ (bytes : List Byte) (i : Instr) (rest : List Byte), decodeBytes bytes = .ok (i, rest) →
    i.wellFormed = true ∧ encode i ++ rest = bytes

/-- O3. The two opcode maps read by the fields x, y, z, p, q of the byte (30_encoding.md R131, R143, R144): the extended map
by operation or bit number and operand, the primary map by the table of R143, 0xCB leading into the extended map (R142). -/
def Obligations.OpcodeMapsFollowTheirFields : Prop :=
  (∀ op2 : Byte, (decodeExtended op2).form = extendedMap op2) ∧
  (∀ op b1 b2 : Byte, op ≠ 0xCB → (decode op b1 b2).form = primaryMap op b1 (joinBytes b2 b1)) ∧
  (∀ b1 b2 : Byte, decode 0xCB b1 b2 = decodeExtended b1)

/-- O4. Words written out from the patterns of R132 decode to the instruction they stand for. -/
def Obligations.WordsOfTheSpecDecode : Prop :=
  decodeBytes [0b01000001] = .ok (.ldBC, []) ∧
  decodeBytes [0b00111110, 0x99] = .ok (.ldAN 0x99, []) ∧
  decodeBytes [0b00100001, 0x34, 0x12] = .ok (.ldHlNn 0x1234, []) ∧
  decodeBytes [0b11110101] = .ok (.pushAf, []) ∧
  decodeBytes [0b10011110] = .ok (.sbcAIndHl, []) ∧
  decodeBytes [0b00100000, 0xFB] = .ok (.jrNzE 0xFB, []) ∧
  decodeBytes [0b11011100, 0x00, 0x02] = .ok (.callCNn 0x0200, []) ∧
  decodeBytes [0b11001011, 0b01111100] = .ok (.bit7H, [])

/-- O5. The length of an instruction is the length R149 gives its opcode byte; too few bytes are refused. -/
def Obligations.LengthFollowsTheOpcodeByte : Prop :=
  let length (op : Byte) : Nat :=
    if op.toNat ∈ [0x01, 0x11, 0x21, 0x31, 0x08, 0xC2, 0xCA, 0xD2, 0xDA, 0xC3, 0xC4, 0xCC, 0xD4, 0xDC, 0xCD, 0xEA, 0xFA]
    then 3
    else if op.toNat ∈ [0x06, 0x0E, 0x16, 0x1E, 0x26, 0x2E, 0x36, 0x3E, 0x18, 0x20, 0x28, 0x30, 0x38, 0xC6, 0xCE, 0xD6,
      0xDE, 0xE6, 0xEE, 0xF6, 0xFE, 0xE0, 0xF0, 0xE8, 0xF8, 0xCB] then 2
    else 1
  decodeBytes [] = .error .truncated ∧
  ∀ (op : Byte) (more : List Byte),
    (more.length + 1 < length op → decodeBytes (op :: more) = .error .truncated) ∧
    (length op ≤ more.length + 1 → ∃ i, decodeBytes (op :: more) = .ok (i, more.drop (length op - 1)) ∧
      (encode i).length = length op ∧ (encode i).head? = some op)

/-- O6. The row PREFIX CB does what the extended row its second byte names does, and nothing else (R255). -/
def Obligations.PrefixRunsTheExtendedRow : Prop :=
  ∀ (op2 : Byte) (s : State),
    encode (.prefixCb op2) = [0xCB, op2] ∧ encode (decodeExtended op2) = [0xCB, op2] ∧
    exec (.prefixCb op2) s = exec (decodeExtended op2) s

/-! ### Reset and load -/

/-- O7. The values of the table of R45, which the spec marks as its own choice (D11, D12; log 5, log 14), for every
cartridge. -/
def Obligations.ResetLeavesTheTableOfR45 : Prop :=
  ∀ cart : Cartridge,
    let s := State.powerOn cart
    s.pc = 0x0100 ∧ s.sp = 0xFFFE ∧ s.a = 0x01 ∧ s.f = 0xB0 ∧ s.b = 0x00 ∧ s.c = 0x13 ∧ s.d = 0x00 ∧ s.e = 0xD8 ∧
    s.h = 0x01 ∧ s.l = 0x4D ∧ s.ime = false ∧ s.halted = false ∧ s.iflag = 0x00 ∧ s.ienable = 0x00 ∧
    (∀ k, s.wram.read k = 0x00) ∧ (∀ k, s.hram.read k = 0x00) ∧ s.cartRam = cart.ramInit ∧ s.rom = cart.rom ∧
    s.romBanks = cart.romBanks ∧ s.ramSize = cart.ramSize ∧ s.ramEnable = false ∧ s.bankLo = 0 ∧ s.bankHi = 0 ∧
    s.bankMode = false ∧ State.reset = State.powerOn Cartridge.none

/-- O8. The state after reset meets the invariant. -/
def Obligations.ResetMeetsTheInvariant : Prop := State.reset.Inv

/-- O9. Every machine the load procedure builds meets the invariant: legal sizes, arrays inside them (R342, R345, R346). -/
def Obligations.LoadedMachinesMeetTheInvariant : Prop :=
  ∀ (file save : Option (List Byte)) (s : State), boot file save = .ok s → s.Inv

/-- O10. The load procedure (R342, R345, R346): when it builds no machine and why, the bank count, the image with its
padding, the RAM size and the save data. -/
def Obligations.LoadProcedureFollowsItsSteps : Prop :=
  let sizeOf (code : Byte) : Option Nat := [0, 0x800, 0x2000, 0x8000, 0x20000, 0x10000][code.toNat]?
  boot none none = .error .unreadableRom ∧
  ∀ bytes : List Byte,
    let rom (k : Nat) : Byte := bytes.getD k 0x00
    let sum : Byte := headerChecksum (Memory.ofBytes 0 bytes)
    (bytes.length < 0x0150 → loadCartridge (some bytes) = .error (.romSize bytes.length)) ∧
    (0x0150 ≤ bytes.length → sum ≠ rom 0x014D →
      loadCartridge (some bytes) = .error (.headerChecksum sum (rom 0x014D))) ∧
    (0x0150 ≤ bytes.length → sum = rom 0x014D → sizeOf (rom 0x0149) = none →
      loadCartridge (some bytes) = .error (.ramSizeCode (rom 0x0149))) ∧
    (0x0150 ≤ bytes.length → sum = rom 0x014D → ∀ size, sizeOf (rom 0x0149) = some size →
      ∃ cart, loadCartridge (some bytes) = .ok cart ∧ (∀ k, cart.rom.read k = rom k) ∧ cart.ramSize = size ∧
        (∀ k, cart.ramInit.read k = 0x00) ∧
        (∃ k, cart.romBanks = 2 ^ (k + 1)) ∧ bytes.length ≤ 0x4000 * cart.romBanks ∧
        (∀ k, bytes.length ≤ 0x4000 * 2 ^ (k + 1) → cart.romBanks ≤ 2 ^ (k + 1)) ∧
        ∀ save : List Byte, ∀ k,
          (loadSave cart save).ramInit.read k = if k < min save.length size then save.getD k 0x00 else 0x00)

/-- O11. The header checksum in closed form: minus the sum of the 25 bytes, minus 25, modulo 256 (R343). -/
def Obligations.HeaderChecksumIsMinusTheSum : Prop :=
  ∀ rom : Memory,
    (((List.range 25).map fun k => (rom.read (0x0134 + k)).toNat).sum + 25 + (headerChecksum rom).toNat) % 256 = 0

/-! ### Registers, memory, router, bank controller -/

/-- O12. A pair is two registers, the first named the high byte; a write of AF masks F (R21, R22). That a read of AF shows
the low nibble masked in every state, also one no run reaches, is the model's reading of R22 (log 15). -/
def Obligations.PairsAreTwoRegisters : Prop :=
  ∀ (s : State) (v : Word),
    (s.bc.toNat = 256 * s.b.toNat + s.c.toNat ∧ s.de.toNat = 256 * s.d.toNat + s.e.toNat ∧
      s.hl.toNat = 256 * s.h.toNat + s.l.toNat ∧ s.af.toNat = 256 * s.a.toNat + s.f.toNat / 16 * 16) ∧
    s.setBC v = { s with b := byte (v.toNat / 256), c := byte v.toNat } ∧
    s.setDE v = { s with d := byte (v.toNat / 256), e := byte v.toNat } ∧
    s.setHL v = { s with h := byte (v.toNat / 256), l := byte v.toNat } ∧
    s.setAF v = { s with a := byte (v.toNat / 256), f := byte (v.toNat % 256 / 16 * 16) }

/-- O13. The storage the router owns, byte by byte: WRAM, its echo, HRAM, IF, IE, and the unmapped addresses (R65 to R70). -/
def Obligations.RouterOwnsItsStorage : Prop :=
  ∀ addr : Word,
    (within addr 0xC000 0xDFFF → plainByte addr (fun s => s.wram.read (addr.toNat - 0xC000))
      fun s v => { s with wram := s.wram.write (addr.toNat - 0xC000) v }) ∧
    (within addr 0xE000 0xFDFF → plainByte addr (fun s => s.wram.read (addr.toNat - 0xE000))
      fun s v => { s with wram := s.wram.write (addr.toNat - 0xE000) v }) ∧
    (within addr 0xFF80 0xFFFE → plainByte addr (fun s => s.hram.read (addr.toNat - 0xFF80))
      fun s v => { s with hram := s.hram.write (addr.toNat - 0xFF80) v }) ∧
    (addr.toNat = 0xFF0F → plainByte addr (fun s => s.iflag) fun s v => { s with iflag := v }) ∧
    (addr.toNat = 0xFFFF → plainByte addr (fun s => s.ienable) fun s v => { s with ienable := v }) ∧
    (unmapped addr → plainByte addr (fun _ => 0xFF) fun s _ => s)

/-- O14. What the cartridge returns and stores: bank 0 in the low window, the effective bank in the high window, external
RAM when armed and present (R86 to R90). -/
def Obligations.CartridgeWindowsAnswer : Prop :=
  ∀ (addr : Word) (s : State) (v : Byte),
    let bank := if s.bankMode = true then s.bankHi.toNat else 0
    let index := (bank * 0x2000 + (addr.toNat - 0xA000)) &&& (s.ramSize - 1)
    (within addr 0x0000 0x3FFF → routerRead addr s = (s.rom.read addr.toNat, s)) ∧
    (within addr 0x4000 0x7FFF →
      routerRead addr s = (s.rom.read (effectiveRomBank s * 0x4000 + (addr.toNat - 0x4000)), s)) ∧
    (within addr 0xA000 0xBFFF → s.ramEnable = false ∨ s.ramSize = 0 →
      routerRead addr s = (0xFF, s) ∧ routerWrite addr v s = .next s) ∧
    (within addr 0xA000 0xBFFF → s.ramEnable = true → s.ramSize ≠ 0 →
      routerRead addr s = (s.cartRam.read index, s) ∧
      routerWrite addr v s = .next { s with cartRam := s.cartRam.write index v })

/-- O15. A write below 0x8000 sets one controller register, by its 8 KiB window, and nothing else (R81 to R84). -/
def Obligations.RomWritesSetControllerRegisters : Prop :=
  ∀ (addr : Word) (s : State) (v : Byte),
    (within addr 0x0000 0x1FFF → routerWrite addr v s = .next { s with ramEnable := decide (v.toNat % 16 = 0xA) }) ∧
    (within addr 0x2000 0x3FFF → routerWrite addr v s = .next { s with bankLo := BitVec.ofNat 5 v.toNat }) ∧
    (within addr 0x4000 0x5FFF → routerWrite addr v s = .next { s with bankHi := BitVec.ofNat 2 v.toNat }) ∧
    (within addr 0x6000 0x7FFF → routerWrite addr v s = .next { s with bankMode := decide (v.toNat % 2 = 1) })

/-- O16. The effective ROM bank: fields, remapping, then the mask by a power of two, which is the remainder; so the bank
and every index behind the two banked windows lie inside the image and the RAM (R85, R88, R89). -/
def Obligations.EffectiveBanksStayInside : Prop :=
  ∀ s : State, legalSizes s →
    effectiveRomBank s = bankNumber s % s.romBanks ∧ effectiveRomBank s < s.romBanks ∧
    (s.bankMode = false → s.bankHi = 0 → s.bankLo = 0 → effectiveRomBank s = 1) ∧
    (s.bankMode = false → s.bankHi = 1 → s.bankLo = 0 → effectiveRomBank s = 0x21 % s.romBanks) ∧
    (∀ addr, within addr 0x4000 0x7FFF → romHighIndex s addr < 0x4000 * s.romBanks) ∧
    (∀ addr, s.ramSize ≠ 0 → extRamIndex s addr < s.ramSize)

/-- O17. An access to a peripheral window is forwarded with its full address and byte; the byte read is free (R71; log 1,
log 3). It holds for every value of the free byte. -/
def Obligations.PeripheralAccessesAreForwarded : Prop :=
  ∀ (d : Device) (addr : Word) (s : State) (v : Byte), ownedBy d addr →
    routerRead addr s = (Config.deviceByte s.draws,
      { s with draws := s.draws + 1, deviceEvents := s.deviceEvents ++ [.read d addr] }) ∧
    (addr ≠ 0xFF46 → routerWrite addr v s = .next { s with deviceEvents := s.deviceEvents ++ [.write d addr v] })

/-- O18. The DMA copy (R72): a legal source copies 160 bytes in ascending order into the object-attribute memory inside
the one write; any other byte ends the run. -/
def Obligations.DmaCopiesOrStops : Prop :=
  ∀ (v : Byte) (s : State),
    let source (k : Nat) : Word := BitVec.ofNat 16 (256 * v.toNat + k)
    let target (k : Nat) : Word := BitVec.ofNat 16 (0xFE00 + k)
    (v.toNat < 0x80 ∨ 0xDF < v.toNat → routerWrite 0xFF46 v s = .fault (.dmaSource v)) ∧
    (0xA0 ≤ v.toNat → v.toNat ≤ 0xDF → routerWrite 0xFF46 v s = .next { s with
      deviceEvents := s.deviceEvents ++
        (List.range 160).map fun k => .write .video (target k) (routerRead (source k) s).1 }) ∧
    (0x80 ≤ v.toNat → v.toNat < 0xA0 → routerWrite 0xFF46 v s = .next { s with
      draws := s.draws + 160
      deviceEvents := s.deviceEvents ++
        (List.range 160).flatMap fun k =>
          [.read .video (source k), .write .video (target k) (Config.deviceByte (s.draws + k))] })

/-- O19. WRAM and its echo are the same bytes, both ways round, for every k in 0 to 0x1DFF (R66). -/
def Obligations.EchoAndWramAreTheSameBytes : Prop :=
  ∀ (s : State) (k : Nat) (v : Byte), s.Inv → k ≤ 0x1DFF →
    let low := BitVec.ofNat 16 (0xC000 + k)
    let high := BitVec.ofNat 16 (0xE000 + k)
    (∃ t, routerWrite high v s = .next t ∧ (routerRead low t).1 = v) ∧
    (∃ t, routerWrite low v s = .next t ∧ (routerRead high t).1 = v) ∧
    (routerRead low s).1 = (routerRead high s).1

/-- O20. Every read returns the most recent write to the same byte: after a completed write the cell written holds the new
byte, through every address that reaches it, and every other cell holds what it held (R100). -/
def Obligations.ReadsReturnTheLatestWrite : Prop :=
  ∀ (s t : State) (addr : Word) (v : Byte), s.Inv → routerWrite addr v s = .next t →
    (∀ c, t.cell c = if writtenCell s addr = some c then v else s.cell c) ∧
    (∀ other c, cellOf t other = some c → (routerRead other t).1 = t.cell c)

/-- O21. Two canonical arrays that read alike at every index are equal: equal memories are equal data. -/
def Obligations.CanonicalMemoriesAreEqualData : Prop :=
  ∀ (m n : Memory) (size : Nat), m.wf size = true → n.wf size = true → (∀ k, m.read k = n.read k) → m = n

/-- O22. The router update (R73): video, timer and joypad are told the same cycle count in this order; requests are only
ever added to IF, only in bits 0, 1, 2 and 4; nothing else changes. It holds for every value of the free requests. -/
def Obligations.RouterUpdateCollectsRequests : Prop :=
  ∀ (cycles : Byte) (s : State), ∃ requests : Byte,
    requests.getLsbD 3 = false ∧ requests.getLsbD 5 = false ∧ requests.getLsbD 6 = false ∧ requests.getLsbD 7 = false ∧
    routerUpdate cycles s = { s with
      iflag := s.iflag ||| requests
      deviceEvents := s.deviceEvents ++ [.update .video cycles, .update .timer cycles, .update .joypad cycles]
      updates := s.updates + 1 }

/-! ### Instructions -/

/-- O23. The 49 register to register loads and the seven immediate loads of a register: value, PC, cycles, nothing else
(R160, R163). -/
def Obligations.RegisterLoadsCopyTheirSource : Prop :=
  (∀ i s dst r, i.opForm = .ld8 (.reg dst) (.reg r) →
    encode i = [byte (64 + 8 * number dst + number r)] ∧
    exec i (fetched i s) = .next { s.setReg dst (s.reg r) with pc := s.pc + 1, tick := s.tick + 4 }) ∧
  (∀ i s dst n, i.opForm = .ld8n (.reg dst) n →
    encode i = [byte (8 * number dst + 6), n] ∧
    exec i (fetched i s) = .next { s.setReg dst n with pc := s.pc + 2, tick := s.tick + 8 })

/-- O24. The loads of a register from memory: one read at the form's address, HL stepped where the form steps it
(R161, R165, R166, R169, R171, R173, R175, R176). -/
def Obligations.LoadsReadTheirAddress : Prop :=
  (∀ i s dst, i.opForm = .ld8 (.reg dst) .atHl →
    let x := memRead (joinBytes s.h s.l) (fetched i s)
    encode i = [byte (64 + 8 * number dst + 6)] ∧ x.2.pc = s.pc + 1 ∧ x.2.tick = s.tick + 8 ∧
    exec i (fetched i s) = .next (x.2.setReg dst x.1)) ∧
  (∀ i s m, i.opForm = .loadA m →
    let x := memRead (address m s) (fetched i s)
    encode i = loadCode m ∧ x.2.pc = s.pc + BitVec.ofNat 16 (loadCode m).length ∧
    x.2.tick = s.tick + BitVec.ofNat 8 (4 * (loadCode m).length + 4) ∧
    exec i (fetched i s) = .next { x.2 with a := x.1, h := hiByte (hlAfter m s), l := loByte (hlAfter m s) })

/-- O25. The byte stores: one write at the form's address, HL stepped where the form steps it; the fatal stop on an illegal
DMA source (R162, R164, R167, R168, R170, R172, R174, R177, R178). -/
def Obligations.ByteStoresWriteTheirAddress : Prop :=
  (∀ i s r, i.opForm = .ld8 .atHl (.reg r) →
    storesByte i s [byte (64 + 8 * 6 + number r)] (fetched i s) (joinBytes s.h s.l) (s.reg r) id) ∧
  (∀ i s n, i.opForm = .ld8n .atHl n →
    storesByte i s [0x36, n] (fetched i s) (joinBytes s.h s.l) n id) ∧
  (∀ i s m, i.opForm = .storeA m →
    storesByte i s (storeCode m) (fetched i s) (address m s) s.a
      fun t => { t with h := hiByte (hlAfter m s), l := loByte (hlAfter m s) })

/-- O26. The 16-bit loads of registers and the additions of a signed offset to SP (R180, R182, R183, R223, R224). -/
def Obligations.PairLoadsAndOffsetSums : Prop :=
  (∀ i s p nn, i.opForm = .ld16 p nn →
    encode i = [byte (16 * pairNumber p + 1), loByte nn, hiByte nn] ∧
    exec i (fetched i s) = .next { s.setPair p nn with pc := s.pc + 3, tick := s.tick + 12 }) ∧
  (∀ i s, i.opForm = .ldSpHl →
    encode i = [0xF9] ∧
    exec i (fetched i s) = .next { s with sp := joinBytes s.h s.l, pc := s.pc + 1, tick := s.tick + 4 }) ∧
  (∀ i s e, i.opForm = .ldHlSpE e →
    encode i = [0xF8, e] ∧
    exec i (fetched i s) = .next { s with
      h := hiByte (offsetSum s.sp e).1, l := loByte (offsetSum s.sp e).1, f := (offsetSum s.sp e).2
      pc := s.pc + 2, tick := s.tick + 8 }) ∧
  (∀ i s e, i.opForm = .addSpE e →
    encode i = [0xE8, e] ∧
    exec i (fetched i s) = .next { s with
      sp := (offsetSum s.sp e).1, f := (offsetSum s.sp e).2, pc := s.pc + 2, tick := s.tick + 8 })

/-- O27. LD (nn),SP and PUSH: two byte writes, the low byte first at the lower address; PUSH first moves SP down by two and
charges one quantum more; a wide store that stops on an illegal DMA source (R181, R184, R186). -/
def Obligations.WordStoresWriteLowByteFirst : Prop :=
  (∀ i s nn, i.opForm = .storeSp nn →
    storesWord i s [0x08, loByte nn, hiByte nn] (fetched i s) nn s.sp id) ∧
  (∀ i s q, i.opForm = .push q →
    storesWord i s [byte (192 + 16 * stackPairNumber q + 5)] { fetched i s with sp := s.sp - 2 } (s.sp - 2)
      (s.stackPair q) fun t => { t with tick := t.tick + 4 })

/-- O28. POP: the low byte from SP, the high byte from SP + 1, SP up by two, one quantum more (R185, R187); which byte
lies where and which is read first is the choice D14 of the spec. -/
def Obligations.PopReadsTheStack : Prop :=
  ∀ i s q, i.opForm = .pop q →
    let x := memRead s.sp (fetched i s)
    let y := memRead (s.sp + 1) x.2
    encode i = [byte (192 + 16 * stackPairNumber q + 1)] ∧ y.2.pc = s.pc + 1 ∧ y.2.tick = s.tick + 12 ∧
    exec i (fetched i s) = .next { y.2.setStackPair q (joinBytes y.1 x.1) with sp := s.sp + 2, tick := y.2.tick + 4 }

/-- O29. ADD and ADC in the register, (HL) and immediate forms (R190, R192 to R197). -/
def Obligations.AddAndAdcAddToA : Prop := accumulates .add ∧ accumulates .adc

/-- O30. SUB, SBC and CP in the register, (HL) and immediate forms; CP leaves A (R191, R198 to R203, R213 to R215). -/
def Obligations.SubSbcAndCpSubtractFromA : Prop := accumulates .sub ∧ accumulates .sbc ∧ accumulates .cp

/-- O31. AND, XOR and OR in the register, (HL) and immediate forms (R204 to R212). -/
def Obligations.AndXorOrCombineWithA : Prop := accumulates .and ∧ accumulates .xor ∧ accumulates .or

/-- O32. INC and DEC of an 8-bit register or of the byte at HL; C keeps its value (R216 to R219). -/
def Obligations.IncAndDecOfAByte : Prop :=
  (∀ i s x, i.opForm = .inc8 x →
    rewrites i s x [byte (8 * operandNumber x + 4)] (fun v => byte (v.toNat + 1))
      fun v => flags (decide (v.toNat = 255)) false (decide (v.toNat % 16 = 15)) (flagC s)) ∧
  (∀ i s x, i.opForm = .dec8 x →
    rewrites i s x [byte (8 * operandNumber x + 5)] (fun v => byte (v.toNat + 255))
      fun v => flags (decide (v.toNat = 1)) true (decide (v.toNat % 16 = 0)) (flagC s))

/-- O33. ADD HL, and INC and DEC of a pair (R220, R221, R222). -/
def Obligations.PairArithmetic : Prop :=
  (∀ i s p, i.opForm = .addHl p →
    let a := (joinBytes s.h s.l).toNat
    let b := (s.pair p).toNat
    encode i = [byte (16 * pairNumber p + 9)] ∧
    exec i (fetched i s) = .next { s with
      h := byte ((a + b) / 256), l := byte (a + b)
      f := flags (flagZ s) false (decide (0x0FFF < a % 0x1000 + b % 0x1000)) (decide (0xFFFF < a + b))
      pc := s.pc + 1, tick := s.tick + 4 }) ∧
  (∀ i s p, i.opForm = .inc16 p →
    encode i = [byte (16 * pairNumber p + 3)] ∧
    exec i (fetched i s) = .next { s.setPair p (BitVec.ofNat 16 ((s.pair p).toNat + 1)) with
      pc := s.pc + 1, tick := s.tick + 4 }) ∧
  (∀ i s p, i.opForm = .dec16 p →
    encode i = [byte (16 * pairNumber p + 11)] ∧
    exec i (fetched i s) = .next { s.setPair p (BitVec.ofNat 16 ((s.pair p).toNat + 65535)) with
      pc := s.pc + 1, tick := s.tick + 4 })

/-- O34. The short rotates force Z to 0; CPL, SCF and CCF change exactly their flags; NOP changes nothing
(R225 to R229, R231 to R233). -/
def Obligations.AccumulatorAndFlagInstructions : Prop :=
  (∀ i s o, i.opForm = .rotA o →
    rotNumber o < 4 ∧ encode i = [byte (8 * rotNumber o + 7)] ∧
    exec i (fetched i s) = .next { s with
      a := rotated o s.a (flagC s), f := flags false false false (shiftedOut o s.a), pc := s.pc + 1, tick := s.tick + 4 }) ∧
  (∀ s, encode .cpl = [0x2F] ∧ exec .cpl (fetched .cpl s) = .next { s with
      a := byte (255 - s.a.toNat), f := flags (flagZ s) true true (flagC s), pc := s.pc + 1, tick := s.tick + 4 }) ∧
  (∀ s, encode .scf = [0x37] ∧ exec .scf (fetched .scf s) = .next { s with
      f := flags (flagZ s) false false true, pc := s.pc + 1, tick := s.tick + 4 }) ∧
  (∀ s, encode .ccf = [0x3F] ∧ exec .ccf (fetched .ccf s) = .next { s with
      f := flags (flagZ s) false false (!flagC s), pc := s.pc + 1, tick := s.tick + 4 }) ∧
  (∀ s, encode .nop = [0x00] ∧ exec .nop (fetched .nop s) = .next { s with pc := s.pc + 1, tick := s.tick + 4 })

/-- O35. DAA by its algorithm (R230). -/
def Obligations.DaaAdjustsA : Prop :=
  ∀ s, encode .daa = [0x27] ∧ exec .daa (fetched .daa s) = .next { s with
    a := (decimalAdjust s.a (flagN s) (flagH s) (flagC s)).1
    f := (decimalAdjust s.a (flagN s) (flagH s) (flagC s)).2
    pc := s.pc + 1, tick := s.tick + 4 }

/-- O36. What DAA is for: after ADC or SBC of two packed BCD bytes it leaves the packed BCD sum or difference modulo 100,
with C the decimal carry or borrow (R230, first sentence, with R190, R191). -/
def Obligations.DaaMakesDecimalArithmetic : Prop :=
  ∀ (s : State) (y : Byte), isBcd s.a → isBcd y →
    (∃ t u, exec (.adcAN y) s = .next t ∧ exec .daa t = .next u ∧ isBcd u.a ∧
      bcdValue u.a + 100 * (flagC u).toNat = bcdValue s.a + bcdValue y + (flagC s).toNat) ∧
    (∃ t u, exec (.sbcAN y) s = .next t ∧ exec .daa t = .next u ∧ isBcd u.a ∧
      bcdValue u.a + bcdValue y + (flagC s).toNat = bcdValue s.a + 100 * (flagC u).toNat)

/-- O37. The jumps, taken and not taken (R235 to R239, R246). -/
def Obligations.JumpsGoToTheirTarget : Prop :=
  (∀ i s nn, i.opForm = .jp nn →
    encode i = [0xC3, loByte nn, hiByte nn] ∧
    exec i (fetched i s) = .next { s with pc := nn, tick := s.tick + 16 }) ∧
  (∀ i s cc nn, i.opForm = .jpCc cc nn →
    encode i = [byte (192 + 8 * condNumber cc + 2), loByte nn, hiByte nn] ∧
    (holds cc s → exec i (fetched i s) = .next { s with pc := nn, tick := s.tick + 16 }) ∧
    (¬holds cc s → exec i (fetched i s) = .next { s with pc := s.pc + 3, tick := s.tick + 12 })) ∧
  (∀ i s, i.opForm = .jpHl →
    encode i = [0xE9] ∧
    exec i (fetched i s) = .next { s with pc := joinBytes s.h s.l, tick := s.tick + 8 }) ∧
  (∀ i s e, i.opForm = .jr e →
    encode i = [0x18, e] ∧
    exec i (fetched i s) = .next { s with pc := BitVec.ofInt 16 (s.pc.toNat + 2 + e.toInt), tick := s.tick + 12 }) ∧
  (∀ i s cc e, i.opForm = .jrCc cc e →
    encode i = [byte (32 + 8 * condNumber cc), e] ∧
    (holds cc s →
      exec i (fetched i s) = .next { s with pc := BitVec.ofInt 16 (s.pc.toNat + 2 + e.toInt), tick := s.tick + 12 }) ∧
    (¬holds cc s → exec i (fetched i s) = .next { s with pc := s.pc + 2, tick := s.tick + 8 }))

/-- O38. The calls and restarts push the address of the next instruction and go to their target; a call not taken changes
PC alone (R240, R241, R245). The low byte is written first, so that it is the first to stop the step as an illegal DMA
source (R186, R75): the choice D14 of the spec. -/
def Obligations.CallsPushTheReturnAddress : Prop :=
  (∀ i s nn, i.opForm = .call nn →
    storesWord i s [0xCD, loByte nn, hiByte nn] { fetched i s with sp := s.sp - 2 } (s.sp - 2) (s.pc + 3)
      fun t => { t with pc := nn, tick := t.tick + 4 }) ∧
  (∀ i s cc nn, i.opForm = .callCc cc nn →
    encode i = [byte (192 + 8 * condNumber cc + 4), loByte nn, hiByte nn] ∧
    (holds cc s →
      storesWord i s [byte (192 + 8 * condNumber cc + 4), loByte nn, hiByte nn] { fetched i s with sp := s.sp - 2 }
        (s.sp - 2) (s.pc + 3) fun t => { t with pc := nn, tick := t.tick + 4 }) ∧
    (¬holds cc s → exec i (fetched i s) = .next { s with pc := s.pc + 3, tick := s.tick + 12 })) ∧
  (∀ i s t, i.opForm = .rst t →
    storesWord i s [byte (192 + 8 * t.val + 7)] { fetched i s with sp := s.sp - 2 } (s.sp - 2) (s.pc + 1)
      fun u => { u with pc := BitVec.ofNat 16 (8 * t.val), tick := u.tick + 4 })

/-- O39. RET, RET cc and RETI pop PC; RETI sets IME as well; RET cc not taken changes PC alone (R242 to R244). The
place and order of the popped bytes (R187) are the choice D14 of the spec. -/
def Obligations.ReturnsPopThePc : Prop :=
  ∀ i s,
    let x := memRead s.sp (fetched i s)
    let y := memRead (s.sp + 1) x.2
    let back := { y.2 with pc := joinBytes y.1 x.1, sp := s.sp + 2, tick := s.tick + 16 }
    (i.opForm = .ret → encode i = [0xC9] ∧ exec i (fetched i s) = .next back) ∧
    (i.opForm = .reti → encode i = [0xD9] ∧ exec i (fetched i s) = .next { back with ime := true }) ∧
    (∀ cc, i.opForm = .retCc cc →
      encode i = [byte (192 + 8 * condNumber cc)] ∧ (holds cc s → exec i (fetched i s) = .next back) ∧
      (¬holds cc s → exec i (fetched i s) = .next { s with pc := s.pc + 1, tick := s.tick + 4 }))

/-- O40. HALT sets halted, DI clears IME, EI sets it at once; nothing else changes (R250, R252, R253). -/
def Obligations.HaltDiAndEi : Prop :=
  ∀ s,
    (encode .halt = [0x76] ∧
      exec .halt (fetched .halt s) = .next { s with halted := true, pc := s.pc + 1, tick := s.tick + 4 }) ∧
    (encode .di = [0xF3] ∧
      exec .di (fetched .di s) = .next { s with ime := false, pc := s.pc + 1, tick := s.tick + 4 }) ∧
    (encode .ei = [0xFB] ∧
      exec .ei (fetched .ei s) = .next { s with ime := true, pc := s.pc + 1, tick := s.tick + 4 })

/-- O41. STOP and the eleven unassigned opcodes add one report, with the address they were fetched from, and do nothing
else; no other instruction reports (R251, R254, R302). -/
def Obligations.StopAndIllegalOpcodesReport : Prop :=
  (∀ s, encode .stop = [0x10] ∧ exec .stop (fetched .stop s) = .next { s with
      reports := s.reports ++ [.stopExecuted s.pc], pc := s.pc + 1, tick := s.tick + 4 }) ∧
  (∀ i s op, i.opForm = .illegal op →
    op.toNat ∈ [0xD3, 0xDB, 0xDD, 0xE3, 0xE4, 0xEB, 0xEC, 0xED, 0xF4, 0xFC, 0xFD] ∧ encode i = [op] ∧
    exec i (fetched i s) = .next { s with
      reports := s.reports ++ [.illegalOpcode op s.pc], pc := s.pc + 1, tick := s.tick + 4 }) ∧
  (∀ i s t, exec i s = .next t → t.reports = s.reports ++ reportsOf i.opForm s)

/-- O42. RLC, RRC, RL and RR on a register and on the byte at HL (R260 to R268). -/
def Obligations.ExtendedRotates : Prop := rotates .rlc ∧ rotates .rrc ∧ rotates .rl ∧ rotates .rr

/-- O43. SLA, SRA, SWAP and SRL on a register and on the byte at HL (R260, R269 to R276). -/
def Obligations.ExtendedShiftsAndSwap : Prop := rotates .sla ∧ rotates .sra ∧ rotates .swap ∧ rotates .srl

/-- O44. BIT, RES and SET on a register and on the byte at HL (R277 to R282). -/
def Obligations.BitTestResetAndSet : Prop :=
  (∀ i s b r, i.opForm = .bit b (.reg r) →
    encode i = [0xCB, byte (64 + 8 * b.val + number r)] ∧
    exec i (fetched i s) = .next { s with
      f := flags (!(s.reg r).getLsbD b.val) false true (flagC s), pc := s.pc + 2, tick := s.tick + 8 }) ∧
  (∀ i s b, i.opForm = .bit b .atHl →
    let x := memRead (joinBytes s.h s.l) (fetched i s)
    encode i = [0xCB, byte (64 + 8 * b.val + 6)] ∧ x.2.pc = s.pc + 2 ∧ x.2.tick = s.tick + 12 ∧
    exec i (fetched i s) = .next { x.2 with f := flags (!x.1.getLsbD b.val) false true (flagC s) }) ∧
  (∀ i s b x, i.opForm = .res b x →
    rewrites i s x [0xCB, byte (128 + 8 * b.val + operandNumber x)]
      (fun v => byte (v.toNat - 2 ^ b.val * (v.getLsbD b.val).toNat)) fun _ => s.f) ∧
  (∀ i s b x, i.opForm = .set b x →
    rewrites i s x [0xCB, byte (192 + 8 * b.val + operandNumber x)]
      (fun v => byte (v.toNat + 2 ^ b.val * (!v.getLsbD b.val).toNat)) fun _ => s.f)

/-! ### Frames -/

/-- O45. The register frame of all 512 rows: a register the form does not write keeps its value (A, B, C, D, E, H, L, SP,
PC after the fetch, IME, halted). -/
def Obligations.RegisterFrame : Prop :=
  ∀ i s t x, exec i s = .next t → x ∉ writtenRegs i.opForm → regValue x t = regValue x s

/-- O46. The flag frame of all 512 rows: every flag obeys its letter of the table's "flags" column, and the low nibble of F
stays 0 (R22 to R26). -/
def Obligations.FlagFrame : Prop :=
  ∀ i s t, exec i s = .next t →
    obeys (flagRules i.opForm).1 (flagZ s) (flagZ t) ∧
    obeys (flagRules i.opForm).2.1 (flagN s) (flagN t) ∧
    obeys (flagRules i.opForm).2.2.1 (flagH s) (flagH t) ∧
    obeys (flagRules i.opForm).2.2.2 (flagC s) (flagC t) ∧
    (s.f &&& 0x0F = 0 → t.f &&& 0x0F = 0)

/-- O47. The memory frame of every form that stores nothing: all storage, IF, IE and the controller registers keep their
values, and every address reads as before. -/
def Obligations.NonStoringFormsLeaveMemory : Prop :=
  ∀ i s t, storedTo i.opForm s = [] → exec i s = .next t →
    t.wram = s.wram ∧ t.hram = s.hram ∧ t.cartRam = s.cartRam ∧ t.rom = s.rom ∧ t.iflag = s.iflag ∧
    t.ienable = s.ienable ∧ sameBanks s t ∧ ∀ addr, t.busByte addr = s.busByte addr

/-- O48. The memory frame of every form that stores: only the bytes at the computed addresses change, ROM never; with no
stored address below 0x8000 the controller registers keep their values and every other address reads as before. -/
def Obligations.StoringFormsChangeOnlyTheirBytes : Prop :=
  ∀ i s t, exec i s = .next t →
    (∀ c, (∀ addr ∈ storedTo i.opForm s, writtenCell s addr ≠ some c) → t.cell c = s.cell c) ∧
    ((∀ addr ∈ storedTo i.opForm s, 0x8000 ≤ addr.toNat) →
      sameBanks s t ∧
      ∀ other, (∀ addr ∈ storedTo i.opForm s, writtenCell s addr = none ∨ writtenCell s addr ≠ cellOf s other) →
        t.busByte other = s.busByte other)

/-! ### The step and interrupts -/

/-- O49. A step of a processor that is not halted runs the instruction whose bytes the bus shows at PC, with PC past it and
one quantum charged per byte, then the device and interrupt parts (R150, R300). -/
def Obligations.StepRunsTheDecodedInstruction : Prop :=
  ∀ s i, s.halted = false → i.wellFormed = true →
    (∀ k, k < (encode i).length → s.busByte (s.pc + BitVec.ofNat 16 k) = (encode i)[k]?) →
    step s = andThen (exec i (fetched i (started s))) finishStep

/-- O50. A halted step fetches nothing, charges 4 cycles and goes on to the device and interrupt parts; with IME = 0 no
number of steps ends the halted state or moves PC (R300, R317, R354). -/
def Obligations.HaltedWithoutImeStaysHalted : Prop :=
  (∀ s, s.halted = true → step s = finishStep { started s with tick := 4 }) ∧
  ∀ s n, s.halted = true → s.ime = false →
    ∃ t, steps n s = .next t ∧ t.halted = true ∧ t.ime = false ∧ t.pc = s.pc ∧ t.sp = s.sp

/-- O51. The halted state ends only by a dispatch, which needs IME = 1 and an enabled source, and costs 24 cycles with the
idle step; and it does end when a request that is enabled is there (R30, R317). -/
def Obligations.OnlyADispatchEndsTheHaltedState : Prop :=
  ∀ s t, s.halted = true → step s = .next t →
    (t.halted = false → s.ime = true ∧ t.ime = false ∧ t.sp = s.sp - 2 ∧ t.cycles = 24 ∧
      ∃ k : Fin 5, s.ienable.getLsbD k.val = true ∧ t.pc = BitVec.ofNat 16 (0x0040 + 8 * k.val)) ∧
    (s.ime = true → pending s ≠ 0 → t.halted = false)

/-- O52. With IME = 0, or with nothing pending, the poll dispatches nothing: the rest of the step is the router update
alone (R309, R310, R328). -/
def Obligations.NothingIsDispatchedUnlessEnabledAndPending : Prop :=
  ∀ s, (deviceDone s).ime = false ∨ pending (deviceDone s) = 0 → finishStep s = .next (deviceDone s)

/-- O53. The interrupt entry: with IME = 1 the lowest pending source is dispatched: its IF bit, IME and halted cleared, PC
pushed low byte first, PC at 0x0040 + 8 i, 20 cycles added and given to the devices (R306, R311, R312, R313). -/
def Obligations.DispatchEntersTheLowestPendingSource : Prop :=
  ∀ (s : State) (k : Fin 5),
    let u := deviceDone s
    let low := { u with iflag := u.iflag &&& ~~~(byte (2 ^ k.val)), ime := false, halted := false, sp := u.sp - 2 }
    u.ime = true → isLowest (pending u) k →
    (¬badDma (u.sp - 2) (loByte u.pc) → ¬badDma (u.sp - 1) (hiByte u.pc) →
      ∃ m t, routerWrite (u.sp - 2) (loByte u.pc) low = .next m ∧ routerWrite (u.sp - 1) (hiByte u.pc) m = .next t ∧
        finishStep s = .next (routerUpdate 20
          { t with pc := BitVec.ofNat 16 (0x0040 + 8 * k.val), cycles := s.tick.toNat + 20 })) ∧
    (badDma (u.sp - 2) (loByte u.pc) → finishStep s = .fault (.dmaSource (loByte u.pc))) ∧
    (¬badDma (u.sp - 2) (loByte u.pc) → badDma (u.sp - 1) (hiByte u.pc) →
      finishStep s = .fault (.dmaSource (hiByte u.pc)))

/-- O54. The machine's search finds the lowest-numbered bit of IF and IE and 0x1F, and none exactly when that is 0
(R309, R311). The mask of the pending set is derived in the spec from the five sources (R309, D17). -/
def Obligations.PendingSourceIsTheLowestBit : Prop :=
  ∀ s, (pendingSource s = none ↔ pending s = 0) ∧ ∀ k, pendingSource s = some k ↔ isLowest (pending s) k

/-- O55. A step never refuses and stops in exactly one way: an illegal byte written to the DMA register, by a store of the
instruction or of the dispatch (R304, R318). -/
def Obligations.StepsStopOnlyOnIllegalDmaSources : Prop :=
  (∀ s x, step s = .fault x → ∃ v : Byte, x = .dmaSource v ∧ (v.toNat < 0x80 ∨ 0xDF < v.toNat)) ∧
  (∀ s x, step s ≠ .refused x) ∧
  (∀ i s x, exec i s = .fault x → 0xFF46 ∈ storedTo i.opForm s) ∧
  (∀ i s x, exec i s ≠ .refused x)

/-- O56. Cycles: the table of R356 for every instruction, taken and not taken; a step charges 4 to 24 for its instruction
part and answers 4 to 44 (R352, R353, R356, R357). -/
def Obligations.CyclesFollowTheTable : Prop :=
  (∀ i s t, exec i (fetched i s) = .next t → t.tick = s.tick + BitVec.ofNat 8 (cyclesOf i.opForm s)) ∧
  (∀ s t, step s = .next t → 4 ≤ t.tick.toNat ∧ t.tick.toNat ≤ 24 ∧
    (t.cycles = t.tick.toNat ∨ t.cycles = t.tick.toNat + 20))

/-- O57. No instruction reads `tick`: what it does and whether it stops are the same for every value of it (R38). -/
def Obligations.NoInstructionReadsTick : Prop :=
  ∀ i s k, exec i { s with tick := k } =
    match exec i s with
    | .next t => .next { t with tick := t.tick - s.tick + k }
    | x => x

/-- O58. No step changes a ROM byte or a size of the cartridge (R35, R80). -/
def Obligations.NoStepChangesTheRom : Prop :=
  ∀ s t, step s = .next t → t.rom = s.rom ∧ t.romBanks = s.romBanks ∧ t.ramSize = s.ramSize

/-- O59. Every step keeps the invariant: F's low nibble is 0, the sizes are legal, and WRAM, HRAM, ROM and cartridge RAM
stay canonical and inside their sizes (R22, R33 to R36). -/
def Obligations.StepKeepsTheInvariant : Prop :=
  ∀ s t, s.Inv → step s = .next t → t.Inv

/-- O60. EI has no effect still to come: with `EI_DELAY` = 0 (D5) no instruction and no step changes the pending-enable
bit, which only the parameter's other value uses (R39; log 25). -/
def Obligations.NoEnableIsLeftPending : Prop :=
  (∀ i s t, exec i s = .next t → t.eiPending = s.eiPending) ∧
  (∀ s t, step s = .next t → t.eiPending = s.eiPending)

end
end

