-- ==== Sys2Proof/Laws/Memory.lean ====
section
/-! SUPPORT. The laws of the storage array: read after write, and that every operation keeps the canonical form. -/

namespace Sys2Proof.Machine

@[simp] theorem Memory.read_nil (i : Nat) : Memory.read [] i = Memory.unlisted := rfl

/-- An index below the whole list reads as an unlisted byte. -/
theorem Memory.read_below {m : Memory} {lo hi i : Nat} (h : m.wfFrom lo hi = true) (hi' : i < lo) :
    m.read i = Memory.unlisted := by
  induction m generalizing lo with
  | nil => rfl
  | cons x m ih =>
    obtain ⟨k, v⟩ := x
    simp only [Memory.wfFrom, Bool.and_eq_true, decide_eq_true_eq] at h
    obtain ⟨⟨⟨h1, _⟩, _⟩, h4⟩ := h
    rw [Memory.read, if_neg (by omega)]
    exact ih h4 (by omega)

/-- `cons` in front of a canonical list: the new index reads the new byte. -/
theorem Memory.read_cons_self {m : Memory} {i hi : Nat} {v : Byte} (h : m.wfFrom (i + 1) hi = true) :
    (Memory.cons i v m).read i = v := by
  unfold Memory.cons
  split
  · rw [Memory.read_below h (by omega)]; simp_all
  · simp [Memory.read]

theorem Memory.read_cons_ne {m : Memory} {i j : Nat} {v : Byte} (h : j ≠ i) :
    (Memory.cons i v m).read j = m.read j := by
  unfold Memory.cons
  split
  · rfl
  · simp [Memory.read, h]

/-- A write leaves every other index alone; this needs no canonical form. -/
theorem Memory.read_write_ne {m : Memory} {i j : Nat} {v : Byte} (h : j ≠ i) :
    (m.write i v).read j = m.read j := by
  induction m with
  | nil => exact Memory.read_cons_ne h
  | cons x m ih =>
    obtain ⟨k, w⟩ := x
    simp only [Memory.write]
    split
    · exact Memory.read_cons_ne h
    · split
      · next h2 => rw [Memory.read_cons_ne h]; simp [Memory.read, show j ≠ k from h2 ▸ h]
      · simp only [Memory.read]; rw [ih]

/-- Loosening the lower bound of a canonical list. -/
theorem Memory.wfFrom_mono {m : Memory} {lo lo' hi : Nat} (h : m.wfFrom lo hi = true) (hl : lo' ≤ lo) :
    m.wfFrom lo' hi = true := by
  cases m with
  | nil => rfl
  | cons x m =>
    simp only [Memory.wfFrom, Bool.and_eq_true, decide_eq_true_eq] at h ⊢
    obtain ⟨⟨⟨h1, h2⟩, h3⟩, h4⟩ := h
    exact ⟨⟨⟨by omega, h2⟩, h3⟩, h4⟩

theorem Memory.wfFrom_cons {m : Memory} {lo hi i : Nat} {v : Byte} (h : m.wfFrom (i + 1) hi = true)
    (hl : lo ≤ i) (hi' : i < hi) : (Memory.cons i v m).wfFrom lo hi = true := by
  unfold Memory.cons
  split
  · exact Memory.wfFrom_mono h (by omega)
  · next hv => simp [Memory.wfFrom, h, hl, hi', hv]

/-- A write inside the array keeps the canonical form. -/
theorem Memory.wfFrom_write {m : Memory} {lo hi i : Nat} {v : Byte} (h : m.wfFrom lo hi = true)
    (hl : lo ≤ i) (hi' : i < hi) : (m.write i v).wfFrom lo hi = true := by
  induction m generalizing lo with
  | nil => exact Memory.wfFrom_cons rfl hl hi'
  | cons x m ih =>
    obtain ⟨k, w⟩ := x
    simp only [Memory.write]
    have h' := h
    simp only [Memory.wfFrom, Bool.and_eq_true, decide_eq_true_eq] at h'
    obtain ⟨⟨⟨h1, h2⟩, h3⟩, h4⟩ := h'
    split
    · next hk =>
      refine Memory.wfFrom_cons ?_ hl hi'
      simp only [Memory.wfFrom, Bool.and_eq_true, decide_eq_true_eq]
      exact ⟨⟨⟨by omega, h2⟩, h3⟩, h4⟩
    · split
      · next _ hk => exact Memory.wfFrom_cons (hk ▸ h4) hl hi'
      · simp only [Memory.wfFrom, Bool.and_eq_true, decide_eq_true_eq]
        exact ⟨⟨⟨h1, h2⟩, h3⟩, ih h4 (by omega)⟩

/-- Every write inside the array keeps `Memory.wf`. -/
theorem Memory.wf_write {m : Memory} {size i : Nat} {v : Byte} (h : m.wf size = true) (hi : i < size) :
    (m.write i v).wf size = true := Memory.wfFrom_write h (Nat.zero_le _) hi

/-- The index just written reads the byte written. -/
theorem Memory.read_write_self {m : Memory} {lo hi i : Nat} {v : Byte} (h : m.wfFrom lo hi = true) :
    (m.write i v).read i = v := by
  induction m generalizing lo with
  | nil => exact Memory.read_cons_self (hi := 0) rfl
  | cons x m ih =>
    obtain ⟨k, w⟩ := x
    simp only [Memory.write]
    have h' := h
    simp only [Memory.wfFrom, Bool.and_eq_true, decide_eq_true_eq] at h'
    obtain ⟨⟨⟨h1, h2⟩, h3⟩, h4⟩ := h'
    split
    · next hk =>
      refine Memory.read_cons_self (hi := hi) ?_
      simp only [Memory.wfFrom, Bool.and_eq_true, decide_eq_true_eq]
      exact ⟨⟨⟨by omega, h2⟩, h3⟩, h4⟩
    · split
      · next _ hk => exact Memory.read_cons_self (hk ▸ h4)
      · next h5 => simp only [Memory.read]; rw [if_neg h5]; exact ih h4

/-- `ofBytes` is canonical. -/
theorem Memory.wfFrom_ofBytes (bytes : List Byte) (start : Nat) :
    (Memory.ofBytes start bytes).wfFrom start (start + bytes.length) = true := by
  induction bytes generalizing start with
  | nil => rfl
  | cons v vs ih =>
    have := ih (start + 1)
    rw [show start + 1 + vs.length = start + (v :: vs).length by simp; omega] at this
    exact Memory.wfFrom_cons this (Nat.le_refl _) (by simp)

/-- The memories of the state after reset are in canonical form: they list nothing. -/
theorem reset_memories_wf :
    State.reset.wram.wf 0x2000 = true ∧ State.reset.hram.wf 127 = true ∧ State.reset.cartRam.wf State.reset.ramSize = true ∧
      State.reset.rom.wf (0x4000 * State.reset.romBanks) = true := ⟨rfl, rfl, rfl, rfl⟩

end Sys2Proof.Machine
end

