-- ==== Sys2Proof/Laws/State.lean ====
section
/-! SUPPORT. One lemma per field per named update of State, so that no proof unfolds a record update. -/

namespace Sys2Proof.Machine

/-! ### Bytes of a word -/

@[simp] theorem hiByte_joinBytes (a b : Byte) : hiByte (joinBytes a b) = a := by
  unfold hiByte joinBytes
  apply BitVec.eq_of_getLsbD_eq
  intro i hi
  simp only [BitVec.getLsbD_extractLsb', BitVec.getLsbD_append]
  simp [hi, show ¬(8 + i < 8) by omega]

@[simp] theorem loByte_joinBytes (a b : Byte) : loByte (joinBytes a b) = b := by
  unfold loByte joinBytes
  apply BitVec.eq_of_getLsbD_eq
  intro i hi
  simp only [BitVec.getLsbD_extractLsb', BitVec.getLsbD_append]
  simp [hi]

/-- A word is the join of its two bytes (R9). -/
@[simp] theorem joinBytes_bytes (v : Word) : joinBytes (hiByte v) (loByte v) = v := by
  unfold joinBytes hiByte loByte
  apply BitVec.eq_of_getLsbD_eq
  intro i hi
  rw [BitVec.getLsbD_append]
  by_cases h : i < 8
  · simp [h]
  · simp [h, show i - 8 < 8 by omega, show 8 + (i - 8) = i by omega]

/-! ### Register and pair writes -/

@[simp] theorem State.setF_a (v : Byte) (s : State) : (s.setF v).a = s.a := rfl
@[simp] theorem State.setF_f (v : Byte) (s : State) : (s.setF v).f = maskF v := rfl
@[simp] theorem State.setF_b (v : Byte) (s : State) : (s.setF v).b = s.b := rfl
@[simp] theorem State.setF_c (v : Byte) (s : State) : (s.setF v).c = s.c := rfl
@[simp] theorem State.setF_d (v : Byte) (s : State) : (s.setF v).d = s.d := rfl
@[simp] theorem State.setF_e (v : Byte) (s : State) : (s.setF v).e = s.e := rfl
@[simp] theorem State.setF_h (v : Byte) (s : State) : (s.setF v).h = s.h := rfl
@[simp] theorem State.setF_l (v : Byte) (s : State) : (s.setF v).l = s.l := rfl
@[simp] theorem State.setF_sp (v : Byte) (s : State) : (s.setF v).sp = s.sp := rfl
@[simp] theorem State.setF_pc (v : Byte) (s : State) : (s.setF v).pc = s.pc := rfl
@[simp] theorem State.setF_ime (v : Byte) (s : State) : (s.setF v).ime = s.ime := rfl
@[simp] theorem State.setF_halted (v : Byte) (s : State) : (s.setF v).halted = s.halted := rfl
@[simp] theorem State.setF_eiPending (v : Byte) (s : State) : (s.setF v).eiPending = s.eiPending := rfl
@[simp] theorem State.setF_iflag (v : Byte) (s : State) : (s.setF v).iflag = s.iflag := rfl
@[simp] theorem State.setF_ienable (v : Byte) (s : State) : (s.setF v).ienable = s.ienable := rfl
@[simp] theorem State.setF_wram (v : Byte) (s : State) : (s.setF v).wram = s.wram := rfl
@[simp] theorem State.setF_hram (v : Byte) (s : State) : (s.setF v).hram = s.hram := rfl
@[simp] theorem State.setF_rom (v : Byte) (s : State) : (s.setF v).rom = s.rom := rfl
@[simp] theorem State.setF_romBanks (v : Byte) (s : State) : (s.setF v).romBanks = s.romBanks := rfl
@[simp] theorem State.setF_cartRam (v : Byte) (s : State) : (s.setF v).cartRam = s.cartRam := rfl
@[simp] theorem State.setF_ramSize (v : Byte) (s : State) : (s.setF v).ramSize = s.ramSize := rfl
@[simp] theorem State.setF_ramEnable (v : Byte) (s : State) : (s.setF v).ramEnable = s.ramEnable := rfl
@[simp] theorem State.setF_bankLo (v : Byte) (s : State) : (s.setF v).bankLo = s.bankLo := rfl
@[simp] theorem State.setF_bankHi (v : Byte) (s : State) : (s.setF v).bankHi = s.bankHi := rfl
@[simp] theorem State.setF_bankMode (v : Byte) (s : State) : (s.setF v).bankMode = s.bankMode := rfl
@[simp] theorem State.setF_tick (v : Byte) (s : State) : (s.setF v).tick = s.tick := rfl
@[simp] theorem State.setF_cycles (v : Byte) (s : State) : (s.setF v).cycles = s.cycles := rfl
@[simp] theorem State.setF_reports (v : Byte) (s : State) : (s.setF v).reports = s.reports := rfl
@[simp] theorem State.setF_deviceEvents (v : Byte) (s : State) : (s.setF v).deviceEvents = s.deviceEvents := rfl
@[simp] theorem State.setF_draws (v : Byte) (s : State) : (s.setF v).draws = s.draws := rfl
@[simp] theorem State.setF_updates (v : Byte) (s : State) : (s.setF v).updates = s.updates := rfl

@[simp] theorem State.setReg_b_own (v : Byte) (s : State) : (s.setReg .b v).b = v := rfl
@[simp] theorem State.setReg_c_own (v : Byte) (s : State) : (s.setReg .c v).c = v := rfl
@[simp] theorem State.setReg_d_own (v : Byte) (s : State) : (s.setReg .d v).d = v := rfl
@[simp] theorem State.setReg_e_own (v : Byte) (s : State) : (s.setReg .e v).e = v := rfl
@[simp] theorem State.setReg_h_own (v : Byte) (s : State) : (s.setReg .h v).h = v := rfl
@[simp] theorem State.setReg_l_own (v : Byte) (s : State) : (s.setReg .l v).l = v := rfl
@[simp] theorem State.setReg_a_own (v : Byte) (s : State) : (s.setReg .a v).a = v := rfl

@[simp] theorem State.setReg_f (r : Reg8) (v : Byte) (s : State) : (s.setReg r v).f = s.f := by cases r <;> rfl
@[simp] theorem State.setReg_sp (r : Reg8) (v : Byte) (s : State) : (s.setReg r v).sp = s.sp := by cases r <;> rfl
@[simp] theorem State.setReg_pc (r : Reg8) (v : Byte) (s : State) : (s.setReg r v).pc = s.pc := by cases r <;> rfl
@[simp] theorem State.setReg_ime (r : Reg8) (v : Byte) (s : State) : (s.setReg r v).ime = s.ime := by cases r <;> rfl
@[simp] theorem State.setReg_halted (r : Reg8) (v : Byte) (s : State) : (s.setReg r v).halted = s.halted := by cases r <;> rfl
@[simp] theorem State.setReg_eiPending (r : Reg8) (v : Byte) (s : State) : (s.setReg r v).eiPending = s.eiPending := by cases r <;> rfl
@[simp] theorem State.setReg_iflag (r : Reg8) (v : Byte) (s : State) : (s.setReg r v).iflag = s.iflag := by cases r <;> rfl
@[simp] theorem State.setReg_ienable (r : Reg8) (v : Byte) (s : State) : (s.setReg r v).ienable = s.ienable := by cases r <;> rfl
@[simp] theorem State.setReg_wram (r : Reg8) (v : Byte) (s : State) : (s.setReg r v).wram = s.wram := by cases r <;> rfl
@[simp] theorem State.setReg_hram (r : Reg8) (v : Byte) (s : State) : (s.setReg r v).hram = s.hram := by cases r <;> rfl
@[simp] theorem State.setReg_rom (r : Reg8) (v : Byte) (s : State) : (s.setReg r v).rom = s.rom := by cases r <;> rfl
@[simp] theorem State.setReg_romBanks (r : Reg8) (v : Byte) (s : State) : (s.setReg r v).romBanks = s.romBanks := by cases r <;> rfl
@[simp] theorem State.setReg_cartRam (r : Reg8) (v : Byte) (s : State) : (s.setReg r v).cartRam = s.cartRam := by cases r <;> rfl
@[simp] theorem State.setReg_ramSize (r : Reg8) (v : Byte) (s : State) : (s.setReg r v).ramSize = s.ramSize := by cases r <;> rfl
@[simp] theorem State.setReg_ramEnable (r : Reg8) (v : Byte) (s : State) : (s.setReg r v).ramEnable = s.ramEnable := by cases r <;> rfl
@[simp] theorem State.setReg_bankLo (r : Reg8) (v : Byte) (s : State) : (s.setReg r v).bankLo = s.bankLo := by cases r <;> rfl
@[simp] theorem State.setReg_bankHi (r : Reg8) (v : Byte) (s : State) : (s.setReg r v).bankHi = s.bankHi := by cases r <;> rfl
@[simp] theorem State.setReg_bankMode (r : Reg8) (v : Byte) (s : State) : (s.setReg r v).bankMode = s.bankMode := by cases r <;> rfl
@[simp] theorem State.setReg_tick (r : Reg8) (v : Byte) (s : State) : (s.setReg r v).tick = s.tick := by cases r <;> rfl
@[simp] theorem State.setReg_cycles (r : Reg8) (v : Byte) (s : State) : (s.setReg r v).cycles = s.cycles := by cases r <;> rfl
@[simp] theorem State.setReg_reports (r : Reg8) (v : Byte) (s : State) : (s.setReg r v).reports = s.reports := by cases r <;> rfl
@[simp] theorem State.setReg_deviceEvents (r : Reg8) (v : Byte) (s : State) : (s.setReg r v).deviceEvents = s.deviceEvents := by cases r <;> rfl
@[simp] theorem State.setReg_draws (r : Reg8) (v : Byte) (s : State) : (s.setReg r v).draws = s.draws := by cases r <;> rfl
@[simp] theorem State.setReg_updates (r : Reg8) (v : Byte) (s : State) : (s.setReg r v).updates = s.updates := by cases r <;> rfl

/-- A register reads what was last written to it, and no other register changes (R20). -/
@[simp] theorem State.reg_setReg (r q : Reg8) (v : Byte) (s : State) :
    (s.setReg r v).reg q = if q = r then v else s.reg q := by cases r <;> cases q <;> rfl

@[simp] theorem State.setBC_a (v : Word) (s : State) : (s.setBC v).a = s.a := rfl
@[simp] theorem State.setBC_f (v : Word) (s : State) : (s.setBC v).f = s.f := rfl
@[simp] theorem State.setBC_b (v : Word) (s : State) : (s.setBC v).b = hiByte v := rfl
@[simp] theorem State.setBC_c (v : Word) (s : State) : (s.setBC v).c = loByte v := rfl
@[simp] theorem State.setBC_d (v : Word) (s : State) : (s.setBC v).d = s.d := rfl
@[simp] theorem State.setBC_e (v : Word) (s : State) : (s.setBC v).e = s.e := rfl
@[simp] theorem State.setBC_h (v : Word) (s : State) : (s.setBC v).h = s.h := rfl
@[simp] theorem State.setBC_l (v : Word) (s : State) : (s.setBC v).l = s.l := rfl
@[simp] theorem State.setBC_sp (v : Word) (s : State) : (s.setBC v).sp = s.sp := rfl
@[simp] theorem State.setBC_pc (v : Word) (s : State) : (s.setBC v).pc = s.pc := rfl
@[simp] theorem State.setBC_ime (v : Word) (s : State) : (s.setBC v).ime = s.ime := rfl
@[simp] theorem State.setBC_halted (v : Word) (s : State) : (s.setBC v).halted = s.halted := rfl
@[simp] theorem State.setBC_eiPending (v : Word) (s : State) : (s.setBC v).eiPending = s.eiPending := rfl
@[simp] theorem State.setBC_iflag (v : Word) (s : State) : (s.setBC v).iflag = s.iflag := rfl
@[simp] theorem State.setBC_ienable (v : Word) (s : State) : (s.setBC v).ienable = s.ienable := rfl
@[simp] theorem State.setBC_wram (v : Word) (s : State) : (s.setBC v).wram = s.wram := rfl
@[simp] theorem State.setBC_hram (v : Word) (s : State) : (s.setBC v).hram = s.hram := rfl
@[simp] theorem State.setBC_rom (v : Word) (s : State) : (s.setBC v).rom = s.rom := rfl
@[simp] theorem State.setBC_romBanks (v : Word) (s : State) : (s.setBC v).romBanks = s.romBanks := rfl
@[simp] theorem State.setBC_cartRam (v : Word) (s : State) : (s.setBC v).cartRam = s.cartRam := rfl
@[simp] theorem State.setBC_ramSize (v : Word) (s : State) : (s.setBC v).ramSize = s.ramSize := rfl
@[simp] theorem State.setBC_ramEnable (v : Word) (s : State) : (s.setBC v).ramEnable = s.ramEnable := rfl
@[simp] theorem State.setBC_bankLo (v : Word) (s : State) : (s.setBC v).bankLo = s.bankLo := rfl
@[simp] theorem State.setBC_bankHi (v : Word) (s : State) : (s.setBC v).bankHi = s.bankHi := rfl
@[simp] theorem State.setBC_bankMode (v : Word) (s : State) : (s.setBC v).bankMode = s.bankMode := rfl
@[simp] theorem State.setBC_tick (v : Word) (s : State) : (s.setBC v).tick = s.tick := rfl
@[simp] theorem State.setBC_cycles (v : Word) (s : State) : (s.setBC v).cycles = s.cycles := rfl
@[simp] theorem State.setBC_reports (v : Word) (s : State) : (s.setBC v).reports = s.reports := rfl
@[simp] theorem State.setBC_deviceEvents (v : Word) (s : State) : (s.setBC v).deviceEvents = s.deviceEvents := rfl
@[simp] theorem State.setBC_draws (v : Word) (s : State) : (s.setBC v).draws = s.draws := rfl
@[simp] theorem State.setBC_updates (v : Word) (s : State) : (s.setBC v).updates = s.updates := rfl

@[simp] theorem State.setDE_a (v : Word) (s : State) : (s.setDE v).a = s.a := rfl
@[simp] theorem State.setDE_f (v : Word) (s : State) : (s.setDE v).f = s.f := rfl
@[simp] theorem State.setDE_b (v : Word) (s : State) : (s.setDE v).b = s.b := rfl
@[simp] theorem State.setDE_c (v : Word) (s : State) : (s.setDE v).c = s.c := rfl
@[simp] theorem State.setDE_d (v : Word) (s : State) : (s.setDE v).d = hiByte v := rfl
@[simp] theorem State.setDE_e (v : Word) (s : State) : (s.setDE v).e = loByte v := rfl
@[simp] theorem State.setDE_h (v : Word) (s : State) : (s.setDE v).h = s.h := rfl
@[simp] theorem State.setDE_l (v : Word) (s : State) : (s.setDE v).l = s.l := rfl
@[simp] theorem State.setDE_sp (v : Word) (s : State) : (s.setDE v).sp = s.sp := rfl
@[simp] theorem State.setDE_pc (v : Word) (s : State) : (s.setDE v).pc = s.pc := rfl
@[simp] theorem State.setDE_ime (v : Word) (s : State) : (s.setDE v).ime = s.ime := rfl
@[simp] theorem State.setDE_halted (v : Word) (s : State) : (s.setDE v).halted = s.halted := rfl
@[simp] theorem State.setDE_eiPending (v : Word) (s : State) : (s.setDE v).eiPending = s.eiPending := rfl
@[simp] theorem State.setDE_iflag (v : Word) (s : State) : (s.setDE v).iflag = s.iflag := rfl
@[simp] theorem State.setDE_ienable (v : Word) (s : State) : (s.setDE v).ienable = s.ienable := rfl
@[simp] theorem State.setDE_wram (v : Word) (s : State) : (s.setDE v).wram = s.wram := rfl
@[simp] theorem State.setDE_hram (v : Word) (s : State) : (s.setDE v).hram = s.hram := rfl
@[simp] theorem State.setDE_rom (v : Word) (s : State) : (s.setDE v).rom = s.rom := rfl
@[simp] theorem State.setDE_romBanks (v : Word) (s : State) : (s.setDE v).romBanks = s.romBanks := rfl
@[simp] theorem State.setDE_cartRam (v : Word) (s : State) : (s.setDE v).cartRam = s.cartRam := rfl
@[simp] theorem State.setDE_ramSize (v : Word) (s : State) : (s.setDE v).ramSize = s.ramSize := rfl
@[simp] theorem State.setDE_ramEnable (v : Word) (s : State) : (s.setDE v).ramEnable = s.ramEnable := rfl
@[simp] theorem State.setDE_bankLo (v : Word) (s : State) : (s.setDE v).bankLo = s.bankLo := rfl
@[simp] theorem State.setDE_bankHi (v : Word) (s : State) : (s.setDE v).bankHi = s.bankHi := rfl
@[simp] theorem State.setDE_bankMode (v : Word) (s : State) : (s.setDE v).bankMode = s.bankMode := rfl
@[simp] theorem State.setDE_tick (v : Word) (s : State) : (s.setDE v).tick = s.tick := rfl
@[simp] theorem State.setDE_cycles (v : Word) (s : State) : (s.setDE v).cycles = s.cycles := rfl
@[simp] theorem State.setDE_reports (v : Word) (s : State) : (s.setDE v).reports = s.reports := rfl
@[simp] theorem State.setDE_deviceEvents (v : Word) (s : State) : (s.setDE v).deviceEvents = s.deviceEvents := rfl
@[simp] theorem State.setDE_draws (v : Word) (s : State) : (s.setDE v).draws = s.draws := rfl
@[simp] theorem State.setDE_updates (v : Word) (s : State) : (s.setDE v).updates = s.updates := rfl

@[simp] theorem State.setHL_a (v : Word) (s : State) : (s.setHL v).a = s.a := rfl
@[simp] theorem State.setHL_f (v : Word) (s : State) : (s.setHL v).f = s.f := rfl
@[simp] theorem State.setHL_b (v : Word) (s : State) : (s.setHL v).b = s.b := rfl
@[simp] theorem State.setHL_c (v : Word) (s : State) : (s.setHL v).c = s.c := rfl
@[simp] theorem State.setHL_d (v : Word) (s : State) : (s.setHL v).d = s.d := rfl
@[simp] theorem State.setHL_e (v : Word) (s : State) : (s.setHL v).e = s.e := rfl
@[simp] theorem State.setHL_h (v : Word) (s : State) : (s.setHL v).h = hiByte v := rfl
@[simp] theorem State.setHL_l (v : Word) (s : State) : (s.setHL v).l = loByte v := rfl
@[simp] theorem State.setHL_sp (v : Word) (s : State) : (s.setHL v).sp = s.sp := rfl
@[simp] theorem State.setHL_pc (v : Word) (s : State) : (s.setHL v).pc = s.pc := rfl
@[simp] theorem State.setHL_ime (v : Word) (s : State) : (s.setHL v).ime = s.ime := rfl
@[simp] theorem State.setHL_halted (v : Word) (s : State) : (s.setHL v).halted = s.halted := rfl
@[simp] theorem State.setHL_eiPending (v : Word) (s : State) : (s.setHL v).eiPending = s.eiPending := rfl
@[simp] theorem State.setHL_iflag (v : Word) (s : State) : (s.setHL v).iflag = s.iflag := rfl
@[simp] theorem State.setHL_ienable (v : Word) (s : State) : (s.setHL v).ienable = s.ienable := rfl
@[simp] theorem State.setHL_wram (v : Word) (s : State) : (s.setHL v).wram = s.wram := rfl
@[simp] theorem State.setHL_hram (v : Word) (s : State) : (s.setHL v).hram = s.hram := rfl
@[simp] theorem State.setHL_rom (v : Word) (s : State) : (s.setHL v).rom = s.rom := rfl
@[simp] theorem State.setHL_romBanks (v : Word) (s : State) : (s.setHL v).romBanks = s.romBanks := rfl
@[simp] theorem State.setHL_cartRam (v : Word) (s : State) : (s.setHL v).cartRam = s.cartRam := rfl
@[simp] theorem State.setHL_ramSize (v : Word) (s : State) : (s.setHL v).ramSize = s.ramSize := rfl
@[simp] theorem State.setHL_ramEnable (v : Word) (s : State) : (s.setHL v).ramEnable = s.ramEnable := rfl
@[simp] theorem State.setHL_bankLo (v : Word) (s : State) : (s.setHL v).bankLo = s.bankLo := rfl
@[simp] theorem State.setHL_bankHi (v : Word) (s : State) : (s.setHL v).bankHi = s.bankHi := rfl
@[simp] theorem State.setHL_bankMode (v : Word) (s : State) : (s.setHL v).bankMode = s.bankMode := rfl
@[simp] theorem State.setHL_tick (v : Word) (s : State) : (s.setHL v).tick = s.tick := rfl
@[simp] theorem State.setHL_cycles (v : Word) (s : State) : (s.setHL v).cycles = s.cycles := rfl
@[simp] theorem State.setHL_reports (v : Word) (s : State) : (s.setHL v).reports = s.reports := rfl
@[simp] theorem State.setHL_deviceEvents (v : Word) (s : State) : (s.setHL v).deviceEvents = s.deviceEvents := rfl
@[simp] theorem State.setHL_draws (v : Word) (s : State) : (s.setHL v).draws = s.draws := rfl
@[simp] theorem State.setHL_updates (v : Word) (s : State) : (s.setHL v).updates = s.updates := rfl

@[simp] theorem State.setAF_a (v : Word) (s : State) : (s.setAF v).a = hiByte v := rfl
@[simp] theorem State.setAF_f (v : Word) (s : State) : (s.setAF v).f = maskF (loByte v) := rfl
@[simp] theorem State.setAF_b (v : Word) (s : State) : (s.setAF v).b = s.b := rfl
@[simp] theorem State.setAF_c (v : Word) (s : State) : (s.setAF v).c = s.c := rfl
@[simp] theorem State.setAF_d (v : Word) (s : State) : (s.setAF v).d = s.d := rfl
@[simp] theorem State.setAF_e (v : Word) (s : State) : (s.setAF v).e = s.e := rfl
@[simp] theorem State.setAF_h (v : Word) (s : State) : (s.setAF v).h = s.h := rfl
@[simp] theorem State.setAF_l (v : Word) (s : State) : (s.setAF v).l = s.l := rfl
@[simp] theorem State.setAF_sp (v : Word) (s : State) : (s.setAF v).sp = s.sp := rfl
@[simp] theorem State.setAF_pc (v : Word) (s : State) : (s.setAF v).pc = s.pc := rfl
@[simp] theorem State.setAF_ime (v : Word) (s : State) : (s.setAF v).ime = s.ime := rfl
@[simp] theorem State.setAF_halted (v : Word) (s : State) : (s.setAF v).halted = s.halted := rfl
@[simp] theorem State.setAF_eiPending (v : Word) (s : State) : (s.setAF v).eiPending = s.eiPending := rfl
@[simp] theorem State.setAF_iflag (v : Word) (s : State) : (s.setAF v).iflag = s.iflag := rfl
@[simp] theorem State.setAF_ienable (v : Word) (s : State) : (s.setAF v).ienable = s.ienable := rfl
@[simp] theorem State.setAF_wram (v : Word) (s : State) : (s.setAF v).wram = s.wram := rfl
@[simp] theorem State.setAF_hram (v : Word) (s : State) : (s.setAF v).hram = s.hram := rfl
@[simp] theorem State.setAF_rom (v : Word) (s : State) : (s.setAF v).rom = s.rom := rfl
@[simp] theorem State.setAF_romBanks (v : Word) (s : State) : (s.setAF v).romBanks = s.romBanks := rfl
@[simp] theorem State.setAF_cartRam (v : Word) (s : State) : (s.setAF v).cartRam = s.cartRam := rfl
@[simp] theorem State.setAF_ramSize (v : Word) (s : State) : (s.setAF v).ramSize = s.ramSize := rfl
@[simp] theorem State.setAF_ramEnable (v : Word) (s : State) : (s.setAF v).ramEnable = s.ramEnable := rfl
@[simp] theorem State.setAF_bankLo (v : Word) (s : State) : (s.setAF v).bankLo = s.bankLo := rfl
@[simp] theorem State.setAF_bankHi (v : Word) (s : State) : (s.setAF v).bankHi = s.bankHi := rfl
@[simp] theorem State.setAF_bankMode (v : Word) (s : State) : (s.setAF v).bankMode = s.bankMode := rfl
@[simp] theorem State.setAF_tick (v : Word) (s : State) : (s.setAF v).tick = s.tick := rfl
@[simp] theorem State.setAF_cycles (v : Word) (s : State) : (s.setAF v).cycles = s.cycles := rfl
@[simp] theorem State.setAF_reports (v : Word) (s : State) : (s.setAF v).reports = s.reports := rfl
@[simp] theorem State.setAF_deviceEvents (v : Word) (s : State) : (s.setAF v).deviceEvents = s.deviceEvents := rfl
@[simp] theorem State.setAF_draws (v : Word) (s : State) : (s.setAF v).draws = s.draws := rfl
@[simp] theorem State.setAF_updates (v : Word) (s : State) : (s.setAF v).updates = s.updates := rfl

@[simp] theorem State.setSP_a (v : Word) (s : State) : (s.setSP v).a = s.a := rfl
@[simp] theorem State.setSP_f (v : Word) (s : State) : (s.setSP v).f = s.f := rfl
@[simp] theorem State.setSP_b (v : Word) (s : State) : (s.setSP v).b = s.b := rfl
@[simp] theorem State.setSP_c (v : Word) (s : State) : (s.setSP v).c = s.c := rfl
@[simp] theorem State.setSP_d (v : Word) (s : State) : (s.setSP v).d = s.d := rfl
@[simp] theorem State.setSP_e (v : Word) (s : State) : (s.setSP v).e = s.e := rfl
@[simp] theorem State.setSP_h (v : Word) (s : State) : (s.setSP v).h = s.h := rfl
@[simp] theorem State.setSP_l (v : Word) (s : State) : (s.setSP v).l = s.l := rfl
@[simp] theorem State.setSP_sp (v : Word) (s : State) : (s.setSP v).sp = v := rfl
@[simp] theorem State.setSP_pc (v : Word) (s : State) : (s.setSP v).pc = s.pc := rfl
@[simp] theorem State.setSP_ime (v : Word) (s : State) : (s.setSP v).ime = s.ime := rfl
@[simp] theorem State.setSP_halted (v : Word) (s : State) : (s.setSP v).halted = s.halted := rfl
@[simp] theorem State.setSP_eiPending (v : Word) (s : State) : (s.setSP v).eiPending = s.eiPending := rfl
@[simp] theorem State.setSP_iflag (v : Word) (s : State) : (s.setSP v).iflag = s.iflag := rfl
@[simp] theorem State.setSP_ienable (v : Word) (s : State) : (s.setSP v).ienable = s.ienable := rfl
@[simp] theorem State.setSP_wram (v : Word) (s : State) : (s.setSP v).wram = s.wram := rfl
@[simp] theorem State.setSP_hram (v : Word) (s : State) : (s.setSP v).hram = s.hram := rfl
@[simp] theorem State.setSP_rom (v : Word) (s : State) : (s.setSP v).rom = s.rom := rfl
@[simp] theorem State.setSP_romBanks (v : Word) (s : State) : (s.setSP v).romBanks = s.romBanks := rfl
@[simp] theorem State.setSP_cartRam (v : Word) (s : State) : (s.setSP v).cartRam = s.cartRam := rfl
@[simp] theorem State.setSP_ramSize (v : Word) (s : State) : (s.setSP v).ramSize = s.ramSize := rfl
@[simp] theorem State.setSP_ramEnable (v : Word) (s : State) : (s.setSP v).ramEnable = s.ramEnable := rfl
@[simp] theorem State.setSP_bankLo (v : Word) (s : State) : (s.setSP v).bankLo = s.bankLo := rfl
@[simp] theorem State.setSP_bankHi (v : Word) (s : State) : (s.setSP v).bankHi = s.bankHi := rfl
@[simp] theorem State.setSP_bankMode (v : Word) (s : State) : (s.setSP v).bankMode = s.bankMode := rfl
@[simp] theorem State.setSP_tick (v : Word) (s : State) : (s.setSP v).tick = s.tick := rfl
@[simp] theorem State.setSP_cycles (v : Word) (s : State) : (s.setSP v).cycles = s.cycles := rfl
@[simp] theorem State.setSP_reports (v : Word) (s : State) : (s.setSP v).reports = s.reports := rfl
@[simp] theorem State.setSP_deviceEvents (v : Word) (s : State) : (s.setSP v).deviceEvents = s.deviceEvents := rfl
@[simp] theorem State.setSP_draws (v : Word) (s : State) : (s.setSP v).draws = s.draws := rfl
@[simp] theorem State.setSP_updates (v : Word) (s : State) : (s.setSP v).updates = s.updates := rfl

@[simp] theorem State.setPC_a (v : Word) (s : State) : (s.setPC v).a = s.a := rfl
@[simp] theorem State.setPC_f (v : Word) (s : State) : (s.setPC v).f = s.f := rfl
@[simp] theorem State.setPC_b (v : Word) (s : State) : (s.setPC v).b = s.b := rfl
@[simp] theorem State.setPC_c (v : Word) (s : State) : (s.setPC v).c = s.c := rfl
@[simp] theorem State.setPC_d (v : Word) (s : State) : (s.setPC v).d = s.d := rfl
@[simp] theorem State.setPC_e (v : Word) (s : State) : (s.setPC v).e = s.e := rfl
@[simp] theorem State.setPC_h (v : Word) (s : State) : (s.setPC v).h = s.h := rfl
@[simp] theorem State.setPC_l (v : Word) (s : State) : (s.setPC v).l = s.l := rfl
@[simp] theorem State.setPC_sp (v : Word) (s : State) : (s.setPC v).sp = s.sp := rfl
@[simp] theorem State.setPC_pc (v : Word) (s : State) : (s.setPC v).pc = v := rfl
@[simp] theorem State.setPC_ime (v : Word) (s : State) : (s.setPC v).ime = s.ime := rfl
@[simp] theorem State.setPC_halted (v : Word) (s : State) : (s.setPC v).halted = s.halted := rfl
@[simp] theorem State.setPC_eiPending (v : Word) (s : State) : (s.setPC v).eiPending = s.eiPending := rfl
@[simp] theorem State.setPC_iflag (v : Word) (s : State) : (s.setPC v).iflag = s.iflag := rfl
@[simp] theorem State.setPC_ienable (v : Word) (s : State) : (s.setPC v).ienable = s.ienable := rfl
@[simp] theorem State.setPC_wram (v : Word) (s : State) : (s.setPC v).wram = s.wram := rfl
@[simp] theorem State.setPC_hram (v : Word) (s : State) : (s.setPC v).hram = s.hram := rfl
@[simp] theorem State.setPC_rom (v : Word) (s : State) : (s.setPC v).rom = s.rom := rfl
@[simp] theorem State.setPC_romBanks (v : Word) (s : State) : (s.setPC v).romBanks = s.romBanks := rfl
@[simp] theorem State.setPC_cartRam (v : Word) (s : State) : (s.setPC v).cartRam = s.cartRam := rfl
@[simp] theorem State.setPC_ramSize (v : Word) (s : State) : (s.setPC v).ramSize = s.ramSize := rfl
@[simp] theorem State.setPC_ramEnable (v : Word) (s : State) : (s.setPC v).ramEnable = s.ramEnable := rfl
@[simp] theorem State.setPC_bankLo (v : Word) (s : State) : (s.setPC v).bankLo = s.bankLo := rfl
@[simp] theorem State.setPC_bankHi (v : Word) (s : State) : (s.setPC v).bankHi = s.bankHi := rfl
@[simp] theorem State.setPC_bankMode (v : Word) (s : State) : (s.setPC v).bankMode = s.bankMode := rfl
@[simp] theorem State.setPC_tick (v : Word) (s : State) : (s.setPC v).tick = s.tick := rfl
@[simp] theorem State.setPC_cycles (v : Word) (s : State) : (s.setPC v).cycles = s.cycles := rfl
@[simp] theorem State.setPC_reports (v : Word) (s : State) : (s.setPC v).reports = s.reports := rfl
@[simp] theorem State.setPC_deviceEvents (v : Word) (s : State) : (s.setPC v).deviceEvents = s.deviceEvents := rfl
@[simp] theorem State.setPC_draws (v : Word) (s : State) : (s.setPC v).draws = s.draws := rfl
@[simp] theorem State.setPC_updates (v : Word) (s : State) : (s.setPC v).updates = s.updates := rfl

@[simp] theorem State.setPair_a (p : Pair) (v : Word) (s : State) : (s.setPair p v).a = s.a := by cases p <;> rfl
@[simp] theorem State.setPair_f (p : Pair) (v : Word) (s : State) : (s.setPair p v).f = s.f := by cases p <;> rfl
@[simp] theorem State.setPair_pc (p : Pair) (v : Word) (s : State) : (s.setPair p v).pc = s.pc := by cases p <;> rfl
@[simp] theorem State.setPair_ime (p : Pair) (v : Word) (s : State) : (s.setPair p v).ime = s.ime := by cases p <;> rfl
@[simp] theorem State.setPair_halted (p : Pair) (v : Word) (s : State) : (s.setPair p v).halted = s.halted := by cases p <;> rfl
@[simp] theorem State.setPair_eiPending (p : Pair) (v : Word) (s : State) : (s.setPair p v).eiPending = s.eiPending := by cases p <;> rfl
@[simp] theorem State.setPair_iflag (p : Pair) (v : Word) (s : State) : (s.setPair p v).iflag = s.iflag := by cases p <;> rfl
@[simp] theorem State.setPair_ienable (p : Pair) (v : Word) (s : State) : (s.setPair p v).ienable = s.ienable := by cases p <;> rfl
@[simp] theorem State.setPair_wram (p : Pair) (v : Word) (s : State) : (s.setPair p v).wram = s.wram := by cases p <;> rfl
@[simp] theorem State.setPair_hram (p : Pair) (v : Word) (s : State) : (s.setPair p v).hram = s.hram := by cases p <;> rfl
@[simp] theorem State.setPair_rom (p : Pair) (v : Word) (s : State) : (s.setPair p v).rom = s.rom := by cases p <;> rfl
@[simp] theorem State.setPair_romBanks (p : Pair) (v : Word) (s : State) : (s.setPair p v).romBanks = s.romBanks := by cases p <;> rfl
@[simp] theorem State.setPair_cartRam (p : Pair) (v : Word) (s : State) : (s.setPair p v).cartRam = s.cartRam := by cases p <;> rfl
@[simp] theorem State.setPair_ramSize (p : Pair) (v : Word) (s : State) : (s.setPair p v).ramSize = s.ramSize := by cases p <;> rfl
@[simp] theorem State.setPair_ramEnable (p : Pair) (v : Word) (s : State) : (s.setPair p v).ramEnable = s.ramEnable := by cases p <;> rfl
@[simp] theorem State.setPair_bankLo (p : Pair) (v : Word) (s : State) : (s.setPair p v).bankLo = s.bankLo := by cases p <;> rfl
@[simp] theorem State.setPair_bankHi (p : Pair) (v : Word) (s : State) : (s.setPair p v).bankHi = s.bankHi := by cases p <;> rfl
@[simp] theorem State.setPair_bankMode (p : Pair) (v : Word) (s : State) : (s.setPair p v).bankMode = s.bankMode := by cases p <;> rfl
@[simp] theorem State.setPair_tick (p : Pair) (v : Word) (s : State) : (s.setPair p v).tick = s.tick := by cases p <;> rfl
@[simp] theorem State.setPair_cycles (p : Pair) (v : Word) (s : State) : (s.setPair p v).cycles = s.cycles := by cases p <;> rfl
@[simp] theorem State.setPair_reports (p : Pair) (v : Word) (s : State) : (s.setPair p v).reports = s.reports := by cases p <;> rfl
@[simp] theorem State.setPair_deviceEvents (p : Pair) (v : Word) (s : State) : (s.setPair p v).deviceEvents = s.deviceEvents := by cases p <;> rfl
@[simp] theorem State.setPair_draws (p : Pair) (v : Word) (s : State) : (s.setPair p v).draws = s.draws := by cases p <;> rfl
@[simp] theorem State.setPair_updates (p : Pair) (v : Word) (s : State) : (s.setPair p v).updates = s.updates := by cases p <;> rfl

@[simp] theorem State.setStackPair_sp (q : StackPair) (v : Word) (s : State) : (s.setStackPair q v).sp = s.sp := by cases q <;> rfl
@[simp] theorem State.setStackPair_pc (q : StackPair) (v : Word) (s : State) : (s.setStackPair q v).pc = s.pc := by cases q <;> rfl
@[simp] theorem State.setStackPair_ime (q : StackPair) (v : Word) (s : State) : (s.setStackPair q v).ime = s.ime := by cases q <;> rfl
@[simp] theorem State.setStackPair_halted (q : StackPair) (v : Word) (s : State) : (s.setStackPair q v).halted = s.halted := by cases q <;> rfl
@[simp] theorem State.setStackPair_eiPending (q : StackPair) (v : Word) (s : State) : (s.setStackPair q v).eiPending = s.eiPending := by cases q <;> rfl
@[simp] theorem State.setStackPair_iflag (q : StackPair) (v : Word) (s : State) : (s.setStackPair q v).iflag = s.iflag := by cases q <;> rfl
@[simp] theorem State.setStackPair_ienable (q : StackPair) (v : Word) (s : State) : (s.setStackPair q v).ienable = s.ienable := by cases q <;> rfl
@[simp] theorem State.setStackPair_wram (q : StackPair) (v : Word) (s : State) : (s.setStackPair q v).wram = s.wram := by cases q <;> rfl
@[simp] theorem State.setStackPair_hram (q : StackPair) (v : Word) (s : State) : (s.setStackPair q v).hram = s.hram := by cases q <;> rfl
@[simp] theorem State.setStackPair_rom (q : StackPair) (v : Word) (s : State) : (s.setStackPair q v).rom = s.rom := by cases q <;> rfl
@[simp] theorem State.setStackPair_romBanks (q : StackPair) (v : Word) (s : State) : (s.setStackPair q v).romBanks = s.romBanks := by cases q <;> rfl
@[simp] theorem State.setStackPair_cartRam (q : StackPair) (v : Word) (s : State) : (s.setStackPair q v).cartRam = s.cartRam := by cases q <;> rfl
@[simp] theorem State.setStackPair_ramSize (q : StackPair) (v : Word) (s : State) : (s.setStackPair q v).ramSize = s.ramSize := by cases q <;> rfl
@[simp] theorem State.setStackPair_ramEnable (q : StackPair) (v : Word) (s : State) : (s.setStackPair q v).ramEnable = s.ramEnable := by cases q <;> rfl
@[simp] theorem State.setStackPair_bankLo (q : StackPair) (v : Word) (s : State) : (s.setStackPair q v).bankLo = s.bankLo := by cases q <;> rfl
@[simp] theorem State.setStackPair_bankHi (q : StackPair) (v : Word) (s : State) : (s.setStackPair q v).bankHi = s.bankHi := by cases q <;> rfl
@[simp] theorem State.setStackPair_bankMode (q : StackPair) (v : Word) (s : State) : (s.setStackPair q v).bankMode = s.bankMode := by cases q <;> rfl
@[simp] theorem State.setStackPair_tick (q : StackPair) (v : Word) (s : State) : (s.setStackPair q v).tick = s.tick := by cases q <;> rfl
@[simp] theorem State.setStackPair_cycles (q : StackPair) (v : Word) (s : State) : (s.setStackPair q v).cycles = s.cycles := by cases q <;> rfl
@[simp] theorem State.setStackPair_reports (q : StackPair) (v : Word) (s : State) : (s.setStackPair q v).reports = s.reports := by cases q <;> rfl
@[simp] theorem State.setStackPair_deviceEvents (q : StackPair) (v : Word) (s : State) : (s.setStackPair q v).deviceEvents = s.deviceEvents := by cases q <;> rfl
@[simp] theorem State.setStackPair_draws (q : StackPair) (v : Word) (s : State) : (s.setStackPair q v).draws = s.draws := by cases q <;> rfl
@[simp] theorem State.setStackPair_updates (q : StackPair) (v : Word) (s : State) : (s.setStackPair q v).updates = s.updates := by cases q <;> rfl

/-! ### Bookkeeping updates -/

@[simp] theorem addTick_a (q : Byte) (s : State) : (addTick q s).a = s.a := rfl
@[simp] theorem addTick_f (q : Byte) (s : State) : (addTick q s).f = s.f := rfl
@[simp] theorem addTick_b (q : Byte) (s : State) : (addTick q s).b = s.b := rfl
@[simp] theorem addTick_c (q : Byte) (s : State) : (addTick q s).c = s.c := rfl
@[simp] theorem addTick_d (q : Byte) (s : State) : (addTick q s).d = s.d := rfl
@[simp] theorem addTick_e (q : Byte) (s : State) : (addTick q s).e = s.e := rfl
@[simp] theorem addTick_h (q : Byte) (s : State) : (addTick q s).h = s.h := rfl
@[simp] theorem addTick_l (q : Byte) (s : State) : (addTick q s).l = s.l := rfl
@[simp] theorem addTick_sp (q : Byte) (s : State) : (addTick q s).sp = s.sp := rfl
@[simp] theorem addTick_pc (q : Byte) (s : State) : (addTick q s).pc = s.pc := rfl
@[simp] theorem addTick_ime (q : Byte) (s : State) : (addTick q s).ime = s.ime := rfl
@[simp] theorem addTick_halted (q : Byte) (s : State) : (addTick q s).halted = s.halted := rfl
@[simp] theorem addTick_eiPending (q : Byte) (s : State) : (addTick q s).eiPending = s.eiPending := rfl
@[simp] theorem addTick_iflag (q : Byte) (s : State) : (addTick q s).iflag = s.iflag := rfl
@[simp] theorem addTick_ienable (q : Byte) (s : State) : (addTick q s).ienable = s.ienable := rfl
@[simp] theorem addTick_wram (q : Byte) (s : State) : (addTick q s).wram = s.wram := rfl
@[simp] theorem addTick_hram (q : Byte) (s : State) : (addTick q s).hram = s.hram := rfl
@[simp] theorem addTick_rom (q : Byte) (s : State) : (addTick q s).rom = s.rom := rfl
@[simp] theorem addTick_romBanks (q : Byte) (s : State) : (addTick q s).romBanks = s.romBanks := rfl
@[simp] theorem addTick_cartRam (q : Byte) (s : State) : (addTick q s).cartRam = s.cartRam := rfl
@[simp] theorem addTick_ramSize (q : Byte) (s : State) : (addTick q s).ramSize = s.ramSize := rfl
@[simp] theorem addTick_ramEnable (q : Byte) (s : State) : (addTick q s).ramEnable = s.ramEnable := rfl
@[simp] theorem addTick_bankLo (q : Byte) (s : State) : (addTick q s).bankLo = s.bankLo := rfl
@[simp] theorem addTick_bankHi (q : Byte) (s : State) : (addTick q s).bankHi = s.bankHi := rfl
@[simp] theorem addTick_bankMode (q : Byte) (s : State) : (addTick q s).bankMode = s.bankMode := rfl
@[simp] theorem addTick_tick (q : Byte) (s : State) : (addTick q s).tick = s.tick + q := rfl
@[simp] theorem addTick_cycles (q : Byte) (s : State) : (addTick q s).cycles = s.cycles := rfl
@[simp] theorem addTick_reports (q : Byte) (s : State) : (addTick q s).reports = s.reports := rfl
@[simp] theorem addTick_deviceEvents (q : Byte) (s : State) : (addTick q s).deviceEvents = s.deviceEvents := rfl
@[simp] theorem addTick_draws (q : Byte) (s : State) : (addTick q s).draws = s.draws := rfl
@[simp] theorem addTick_updates (q : Byte) (s : State) : (addTick q s).updates = s.updates := rfl

@[simp] theorem extraQuantum_a  (s : State) : (extraQuantum s).a = s.a := rfl
@[simp] theorem extraQuantum_f  (s : State) : (extraQuantum s).f = s.f := rfl
@[simp] theorem extraQuantum_b  (s : State) : (extraQuantum s).b = s.b := rfl
@[simp] theorem extraQuantum_c  (s : State) : (extraQuantum s).c = s.c := rfl
@[simp] theorem extraQuantum_d  (s : State) : (extraQuantum s).d = s.d := rfl
@[simp] theorem extraQuantum_e  (s : State) : (extraQuantum s).e = s.e := rfl
@[simp] theorem extraQuantum_h  (s : State) : (extraQuantum s).h = s.h := rfl
@[simp] theorem extraQuantum_l  (s : State) : (extraQuantum s).l = s.l := rfl
@[simp] theorem extraQuantum_sp  (s : State) : (extraQuantum s).sp = s.sp := rfl
@[simp] theorem extraQuantum_pc  (s : State) : (extraQuantum s).pc = s.pc := rfl
@[simp] theorem extraQuantum_ime  (s : State) : (extraQuantum s).ime = s.ime := rfl
@[simp] theorem extraQuantum_halted  (s : State) : (extraQuantum s).halted = s.halted := rfl
@[simp] theorem extraQuantum_eiPending  (s : State) : (extraQuantum s).eiPending = s.eiPending := rfl
@[simp] theorem extraQuantum_iflag  (s : State) : (extraQuantum s).iflag = s.iflag := rfl
@[simp] theorem extraQuantum_ienable  (s : State) : (extraQuantum s).ienable = s.ienable := rfl
@[simp] theorem extraQuantum_wram  (s : State) : (extraQuantum s).wram = s.wram := rfl
@[simp] theorem extraQuantum_hram  (s : State) : (extraQuantum s).hram = s.hram := rfl
@[simp] theorem extraQuantum_rom  (s : State) : (extraQuantum s).rom = s.rom := rfl
@[simp] theorem extraQuantum_romBanks  (s : State) : (extraQuantum s).romBanks = s.romBanks := rfl
@[simp] theorem extraQuantum_cartRam  (s : State) : (extraQuantum s).cartRam = s.cartRam := rfl
@[simp] theorem extraQuantum_ramSize  (s : State) : (extraQuantum s).ramSize = s.ramSize := rfl
@[simp] theorem extraQuantum_ramEnable  (s : State) : (extraQuantum s).ramEnable = s.ramEnable := rfl
@[simp] theorem extraQuantum_bankLo  (s : State) : (extraQuantum s).bankLo = s.bankLo := rfl
@[simp] theorem extraQuantum_bankHi  (s : State) : (extraQuantum s).bankHi = s.bankHi := rfl
@[simp] theorem extraQuantum_bankMode  (s : State) : (extraQuantum s).bankMode = s.bankMode := rfl
@[simp] theorem extraQuantum_tick  (s : State) : (extraQuantum s).tick = s.tick + Config.cycleQuantum := rfl
@[simp] theorem extraQuantum_cycles  (s : State) : (extraQuantum s).cycles = s.cycles := rfl
@[simp] theorem extraQuantum_reports  (s : State) : (extraQuantum s).reports = s.reports := rfl
@[simp] theorem extraQuantum_deviceEvents  (s : State) : (extraQuantum s).deviceEvents = s.deviceEvents := rfl
@[simp] theorem extraQuantum_draws  (s : State) : (extraQuantum s).draws = s.draws := rfl
@[simp] theorem extraQuantum_updates  (s : State) : (extraQuantum s).updates = s.updates := rfl

@[simp] theorem report_a (r : Report) (s : State) : (report r s).a = s.a := rfl
@[simp] theorem report_f (r : Report) (s : State) : (report r s).f = s.f := rfl
@[simp] theorem report_b (r : Report) (s : State) : (report r s).b = s.b := rfl
@[simp] theorem report_c (r : Report) (s : State) : (report r s).c = s.c := rfl
@[simp] theorem report_d (r : Report) (s : State) : (report r s).d = s.d := rfl
@[simp] theorem report_e (r : Report) (s : State) : (report r s).e = s.e := rfl
@[simp] theorem report_h (r : Report) (s : State) : (report r s).h = s.h := rfl
@[simp] theorem report_l (r : Report) (s : State) : (report r s).l = s.l := rfl
@[simp] theorem report_sp (r : Report) (s : State) : (report r s).sp = s.sp := rfl
@[simp] theorem report_pc (r : Report) (s : State) : (report r s).pc = s.pc := rfl
@[simp] theorem report_ime (r : Report) (s : State) : (report r s).ime = s.ime := rfl
@[simp] theorem report_halted (r : Report) (s : State) : (report r s).halted = s.halted := rfl
@[simp] theorem report_eiPending (r : Report) (s : State) : (report r s).eiPending = s.eiPending := rfl
@[simp] theorem report_iflag (r : Report) (s : State) : (report r s).iflag = s.iflag := rfl
@[simp] theorem report_ienable (r : Report) (s : State) : (report r s).ienable = s.ienable := rfl
@[simp] theorem report_wram (r : Report) (s : State) : (report r s).wram = s.wram := rfl
@[simp] theorem report_hram (r : Report) (s : State) : (report r s).hram = s.hram := rfl
@[simp] theorem report_rom (r : Report) (s : State) : (report r s).rom = s.rom := rfl
@[simp] theorem report_romBanks (r : Report) (s : State) : (report r s).romBanks = s.romBanks := rfl
@[simp] theorem report_cartRam (r : Report) (s : State) : (report r s).cartRam = s.cartRam := rfl
@[simp] theorem report_ramSize (r : Report) (s : State) : (report r s).ramSize = s.ramSize := rfl
@[simp] theorem report_ramEnable (r : Report) (s : State) : (report r s).ramEnable = s.ramEnable := rfl
@[simp] theorem report_bankLo (r : Report) (s : State) : (report r s).bankLo = s.bankLo := rfl
@[simp] theorem report_bankHi (r : Report) (s : State) : (report r s).bankHi = s.bankHi := rfl
@[simp] theorem report_bankMode (r : Report) (s : State) : (report r s).bankMode = s.bankMode := rfl
@[simp] theorem report_tick (r : Report) (s : State) : (report r s).tick = s.tick := rfl
@[simp] theorem report_cycles (r : Report) (s : State) : (report r s).cycles = s.cycles := rfl
@[simp] theorem report_reports (r : Report) (s : State) : (report r s).reports = s.reports ++ [r] := rfl
@[simp] theorem report_deviceEvents (r : Report) (s : State) : (report r s).deviceEvents = s.deviceEvents := rfl
@[simp] theorem report_draws (r : Report) (s : State) : (report r s).draws = s.draws := rfl
@[simp] theorem report_updates (r : Report) (s : State) : (report r s).updates = s.updates := rfl

@[simp] theorem deviceWrite_a (d : Device) (addr : Word) (v : Byte) (s : State) : (deviceWrite d addr v s).a = s.a := rfl
@[simp] theorem deviceWrite_f (d : Device) (addr : Word) (v : Byte) (s : State) : (deviceWrite d addr v s).f = s.f := rfl
@[simp] theorem deviceWrite_b (d : Device) (addr : Word) (v : Byte) (s : State) : (deviceWrite d addr v s).b = s.b := rfl
@[simp] theorem deviceWrite_c (d : Device) (addr : Word) (v : Byte) (s : State) : (deviceWrite d addr v s).c = s.c := rfl
@[simp] theorem deviceWrite_d (d : Device) (addr : Word) (v : Byte) (s : State) : (deviceWrite d addr v s).d = s.d := rfl
@[simp] theorem deviceWrite_e (d : Device) (addr : Word) (v : Byte) (s : State) : (deviceWrite d addr v s).e = s.e := rfl
@[simp] theorem deviceWrite_h (d : Device) (addr : Word) (v : Byte) (s : State) : (deviceWrite d addr v s).h = s.h := rfl
@[simp] theorem deviceWrite_l (d : Device) (addr : Word) (v : Byte) (s : State) : (deviceWrite d addr v s).l = s.l := rfl
@[simp] theorem deviceWrite_sp (d : Device) (addr : Word) (v : Byte) (s : State) : (deviceWrite d addr v s).sp = s.sp := rfl
@[simp] theorem deviceWrite_pc (d : Device) (addr : Word) (v : Byte) (s : State) : (deviceWrite d addr v s).pc = s.pc := rfl
@[simp] theorem deviceWrite_ime (d : Device) (addr : Word) (v : Byte) (s : State) : (deviceWrite d addr v s).ime = s.ime := rfl
@[simp] theorem deviceWrite_halted (d : Device) (addr : Word) (v : Byte) (s : State) : (deviceWrite d addr v s).halted = s.halted := rfl
@[simp] theorem deviceWrite_eiPending (d : Device) (addr : Word) (v : Byte) (s : State) : (deviceWrite d addr v s).eiPending = s.eiPending := rfl
@[simp] theorem deviceWrite_iflag (d : Device) (addr : Word) (v : Byte) (s : State) : (deviceWrite d addr v s).iflag = s.iflag := rfl
@[simp] theorem deviceWrite_ienable (d : Device) (addr : Word) (v : Byte) (s : State) : (deviceWrite d addr v s).ienable = s.ienable := rfl
@[simp] theorem deviceWrite_wram (d : Device) (addr : Word) (v : Byte) (s : State) : (deviceWrite d addr v s).wram = s.wram := rfl
@[simp] theorem deviceWrite_hram (d : Device) (addr : Word) (v : Byte) (s : State) : (deviceWrite d addr v s).hram = s.hram := rfl
@[simp] theorem deviceWrite_rom (d : Device) (addr : Word) (v : Byte) (s : State) : (deviceWrite d addr v s).rom = s.rom := rfl
@[simp] theorem deviceWrite_romBanks (d : Device) (addr : Word) (v : Byte) (s : State) : (deviceWrite d addr v s).romBanks = s.romBanks := rfl
@[simp] theorem deviceWrite_cartRam (d : Device) (addr : Word) (v : Byte) (s : State) : (deviceWrite d addr v s).cartRam = s.cartRam := rfl
@[simp] theorem deviceWrite_ramSize (d : Device) (addr : Word) (v : Byte) (s : State) : (deviceWrite d addr v s).ramSize = s.ramSize := rfl
@[simp] theorem deviceWrite_ramEnable (d : Device) (addr : Word) (v : Byte) (s : State) : (deviceWrite d addr v s).ramEnable = s.ramEnable := rfl
@[simp] theorem deviceWrite_bankLo (d : Device) (addr : Word) (v : Byte) (s : State) : (deviceWrite d addr v s).bankLo = s.bankLo := rfl
@[simp] theorem deviceWrite_bankHi (d : Device) (addr : Word) (v : Byte) (s : State) : (deviceWrite d addr v s).bankHi = s.bankHi := rfl
@[simp] theorem deviceWrite_bankMode (d : Device) (addr : Word) (v : Byte) (s : State) : (deviceWrite d addr v s).bankMode = s.bankMode := rfl
@[simp] theorem deviceWrite_tick (d : Device) (addr : Word) (v : Byte) (s : State) : (deviceWrite d addr v s).tick = s.tick := rfl
@[simp] theorem deviceWrite_cycles (d : Device) (addr : Word) (v : Byte) (s : State) : (deviceWrite d addr v s).cycles = s.cycles := rfl
@[simp] theorem deviceWrite_reports (d : Device) (addr : Word) (v : Byte) (s : State) : (deviceWrite d addr v s).reports = s.reports := rfl
@[simp] theorem deviceWrite_deviceEvents (d : Device) (addr : Word) (v : Byte) (s : State) : (deviceWrite d addr v s).deviceEvents = s.deviceEvents ++ [.write d addr v] := rfl
@[simp] theorem deviceWrite_draws (d : Device) (addr : Word) (v : Byte) (s : State) : (deviceWrite d addr v s).draws = s.draws := rfl
@[simp] theorem deviceWrite_updates (d : Device) (addr : Word) (v : Byte) (s : State) : (deviceWrite d addr v s).updates = s.updates := rfl

@[simp] theorem beginStep_a  (s : State) : (beginStep s).a = s.a := rfl
@[simp] theorem beginStep_f  (s : State) : (beginStep s).f = s.f := rfl
@[simp] theorem beginStep_b  (s : State) : (beginStep s).b = s.b := rfl
@[simp] theorem beginStep_c  (s : State) : (beginStep s).c = s.c := rfl
@[simp] theorem beginStep_d  (s : State) : (beginStep s).d = s.d := rfl
@[simp] theorem beginStep_e  (s : State) : (beginStep s).e = s.e := rfl
@[simp] theorem beginStep_h  (s : State) : (beginStep s).h = s.h := rfl
@[simp] theorem beginStep_l  (s : State) : (beginStep s).l = s.l := rfl
@[simp] theorem beginStep_sp  (s : State) : (beginStep s).sp = s.sp := rfl
@[simp] theorem beginStep_pc  (s : State) : (beginStep s).pc = s.pc := rfl
@[simp] theorem beginStep_ime  (s : State) : (beginStep s).ime = s.ime := rfl
@[simp] theorem beginStep_halted  (s : State) : (beginStep s).halted = s.halted := rfl
@[simp] theorem beginStep_eiPending  (s : State) : (beginStep s).eiPending = s.eiPending := rfl
@[simp] theorem beginStep_iflag  (s : State) : (beginStep s).iflag = s.iflag := rfl
@[simp] theorem beginStep_ienable  (s : State) : (beginStep s).ienable = s.ienable := rfl
@[simp] theorem beginStep_wram  (s : State) : (beginStep s).wram = s.wram := rfl
@[simp] theorem beginStep_hram  (s : State) : (beginStep s).hram = s.hram := rfl
@[simp] theorem beginStep_rom  (s : State) : (beginStep s).rom = s.rom := rfl
@[simp] theorem beginStep_romBanks  (s : State) : (beginStep s).romBanks = s.romBanks := rfl
@[simp] theorem beginStep_cartRam  (s : State) : (beginStep s).cartRam = s.cartRam := rfl
@[simp] theorem beginStep_ramSize  (s : State) : (beginStep s).ramSize = s.ramSize := rfl
@[simp] theorem beginStep_ramEnable  (s : State) : (beginStep s).ramEnable = s.ramEnable := rfl
@[simp] theorem beginStep_bankLo  (s : State) : (beginStep s).bankLo = s.bankLo := rfl
@[simp] theorem beginStep_bankHi  (s : State) : (beginStep s).bankHi = s.bankHi := rfl
@[simp] theorem beginStep_bankMode  (s : State) : (beginStep s).bankMode = s.bankMode := rfl
@[simp] theorem beginStep_tick  (s : State) : (beginStep s).tick = 0 := rfl
@[simp] theorem beginStep_cycles  (s : State) : (beginStep s).cycles = 0 := rfl
@[simp] theorem beginStep_reports  (s : State) : (beginStep s).reports = [] := rfl
@[simp] theorem beginStep_deviceEvents  (s : State) : (beginStep s).deviceEvents = [] := rfl
@[simp] theorem beginStep_draws  (s : State) : (beginStep s).draws = s.draws := rfl
@[simp] theorem beginStep_updates  (s : State) : (beginStep s).updates = s.updates := rfl

@[simp] theorem haltedPart_a  (s : State) : (haltedPart s).a = s.a := rfl
@[simp] theorem haltedPart_f  (s : State) : (haltedPart s).f = s.f := rfl
@[simp] theorem haltedPart_b  (s : State) : (haltedPart s).b = s.b := rfl
@[simp] theorem haltedPart_c  (s : State) : (haltedPart s).c = s.c := rfl
@[simp] theorem haltedPart_d  (s : State) : (haltedPart s).d = s.d := rfl
@[simp] theorem haltedPart_e  (s : State) : (haltedPart s).e = s.e := rfl
@[simp] theorem haltedPart_h  (s : State) : (haltedPart s).h = s.h := rfl
@[simp] theorem haltedPart_l  (s : State) : (haltedPart s).l = s.l := rfl
@[simp] theorem haltedPart_sp  (s : State) : (haltedPart s).sp = s.sp := rfl
@[simp] theorem haltedPart_pc  (s : State) : (haltedPart s).pc = s.pc := rfl
@[simp] theorem haltedPart_ime  (s : State) : (haltedPart s).ime = s.ime := rfl
@[simp] theorem haltedPart_halted  (s : State) : (haltedPart s).halted = s.halted := rfl
@[simp] theorem haltedPart_eiPending  (s : State) : (haltedPart s).eiPending = s.eiPending := rfl
@[simp] theorem haltedPart_iflag  (s : State) : (haltedPart s).iflag = s.iflag := rfl
@[simp] theorem haltedPart_ienable  (s : State) : (haltedPart s).ienable = s.ienable := rfl
@[simp] theorem haltedPart_wram  (s : State) : (haltedPart s).wram = s.wram := rfl
@[simp] theorem haltedPart_hram  (s : State) : (haltedPart s).hram = s.hram := rfl
@[simp] theorem haltedPart_rom  (s : State) : (haltedPart s).rom = s.rom := rfl
@[simp] theorem haltedPart_romBanks  (s : State) : (haltedPart s).romBanks = s.romBanks := rfl
@[simp] theorem haltedPart_cartRam  (s : State) : (haltedPart s).cartRam = s.cartRam := rfl
@[simp] theorem haltedPart_ramSize  (s : State) : (haltedPart s).ramSize = s.ramSize := rfl
@[simp] theorem haltedPart_ramEnable  (s : State) : (haltedPart s).ramEnable = s.ramEnable := rfl
@[simp] theorem haltedPart_bankLo  (s : State) : (haltedPart s).bankLo = s.bankLo := rfl
@[simp] theorem haltedPart_bankHi  (s : State) : (haltedPart s).bankHi = s.bankHi := rfl
@[simp] theorem haltedPart_bankMode  (s : State) : (haltedPart s).bankMode = s.bankMode := rfl
@[simp] theorem haltedPart_tick  (s : State) : (haltedPart s).tick = s.tick + Config.haltIdleCycles := rfl
@[simp] theorem haltedPart_cycles  (s : State) : (haltedPart s).cycles = s.cycles := rfl
@[simp] theorem haltedPart_reports  (s : State) : (haltedPart s).reports = s.reports := rfl
@[simp] theorem haltedPart_deviceEvents  (s : State) : (haltedPart s).deviceEvents = s.deviceEvents := rfl
@[simp] theorem haltedPart_draws  (s : State) : (haltedPart s).draws = s.draws := rfl
@[simp] theorem haltedPart_updates  (s : State) : (haltedPart s).updates = s.updates := rfl

@[simp] theorem routerUpdate_a (q : Byte) (s : State) : (routerUpdate q s).a = s.a := rfl
@[simp] theorem routerUpdate_f (q : Byte) (s : State) : (routerUpdate q s).f = s.f := rfl
@[simp] theorem routerUpdate_b (q : Byte) (s : State) : (routerUpdate q s).b = s.b := rfl
@[simp] theorem routerUpdate_c (q : Byte) (s : State) : (routerUpdate q s).c = s.c := rfl
@[simp] theorem routerUpdate_d (q : Byte) (s : State) : (routerUpdate q s).d = s.d := rfl
@[simp] theorem routerUpdate_e (q : Byte) (s : State) : (routerUpdate q s).e = s.e := rfl
@[simp] theorem routerUpdate_h (q : Byte) (s : State) : (routerUpdate q s).h = s.h := rfl
@[simp] theorem routerUpdate_l (q : Byte) (s : State) : (routerUpdate q s).l = s.l := rfl
@[simp] theorem routerUpdate_sp (q : Byte) (s : State) : (routerUpdate q s).sp = s.sp := rfl
@[simp] theorem routerUpdate_pc (q : Byte) (s : State) : (routerUpdate q s).pc = s.pc := rfl
@[simp] theorem routerUpdate_ime (q : Byte) (s : State) : (routerUpdate q s).ime = s.ime := rfl
@[simp] theorem routerUpdate_halted (q : Byte) (s : State) : (routerUpdate q s).halted = s.halted := rfl
@[simp] theorem routerUpdate_eiPending (q : Byte) (s : State) : (routerUpdate q s).eiPending = s.eiPending := rfl
@[simp] theorem routerUpdate_iflag (q : Byte) (s : State) : (routerUpdate q s).iflag = s.iflag ||| (Config.deviceRequests s.updates &&& requestMask) := rfl
@[simp] theorem routerUpdate_ienable (q : Byte) (s : State) : (routerUpdate q s).ienable = s.ienable := rfl
@[simp] theorem routerUpdate_wram (q : Byte) (s : State) : (routerUpdate q s).wram = s.wram := rfl
@[simp] theorem routerUpdate_hram (q : Byte) (s : State) : (routerUpdate q s).hram = s.hram := rfl
@[simp] theorem routerUpdate_rom (q : Byte) (s : State) : (routerUpdate q s).rom = s.rom := rfl
@[simp] theorem routerUpdate_romBanks (q : Byte) (s : State) : (routerUpdate q s).romBanks = s.romBanks := rfl
@[simp] theorem routerUpdate_cartRam (q : Byte) (s : State) : (routerUpdate q s).cartRam = s.cartRam := rfl
@[simp] theorem routerUpdate_ramSize (q : Byte) (s : State) : (routerUpdate q s).ramSize = s.ramSize := rfl
@[simp] theorem routerUpdate_ramEnable (q : Byte) (s : State) : (routerUpdate q s).ramEnable = s.ramEnable := rfl
@[simp] theorem routerUpdate_bankLo (q : Byte) (s : State) : (routerUpdate q s).bankLo = s.bankLo := rfl
@[simp] theorem routerUpdate_bankHi (q : Byte) (s : State) : (routerUpdate q s).bankHi = s.bankHi := rfl
@[simp] theorem routerUpdate_bankMode (q : Byte) (s : State) : (routerUpdate q s).bankMode = s.bankMode := rfl
@[simp] theorem routerUpdate_tick (q : Byte) (s : State) : (routerUpdate q s).tick = s.tick := rfl
@[simp] theorem routerUpdate_cycles (q : Byte) (s : State) : (routerUpdate q s).cycles = s.cycles := rfl
@[simp] theorem routerUpdate_reports (q : Byte) (s : State) : (routerUpdate q s).reports = s.reports := rfl
@[simp] theorem routerUpdate_deviceEvents (q : Byte) (s : State) : (routerUpdate q s).deviceEvents = s.deviceEvents ++ [.update .video q, .update .timer q, .update .joypad q] := rfl
@[simp] theorem routerUpdate_draws (q : Byte) (s : State) : (routerUpdate q s).draws = s.draws := rfl
@[simp] theorem routerUpdate_updates (q : Byte) (s : State) : (routerUpdate q s).updates = s.updates + 1 := rfl


end Sys2Proof.Machine
end

