-- ==== Sys2Proof/Laws/Ops.lean ====
section
/-! SUPPORT. What each shared operation of Machine/Ops.lean can do, said once. -/

namespace Sys2Proof.Machine

/-! ### Going on -/

@[simp] theorem andThen_next (s : State) (k : State → Result) : andThen (.next s) k = k s := rfl
@[simp] theorem andThen_fault (r : Fault) (k : State → Result) : andThen (.fault r) k = .fault r := rfl
@[simp] theorem andThen_refused (r : Refusal) (k : State → Result) : andThen (.refused r) k = .refused r := rfl

/-- A composed run reaches a next state exactly when both halves do. -/
theorem andThen_eq_next {r : Result} {k : State → Result} {t : State} :
    andThen r k = .next t ↔ ∃ s, r = .next s ∧ k s = .next t := by
  cases r <;> simp

/-- A composed run faults in its first half or in its second. -/
theorem andThen_eq_fault {r : Result} {k : State → Result} {x : Fault} :
    andThen r k = .fault x ↔ r = .fault x ∨ ∃ s, r = .next s ∧ k s = .fault x := by
  cases r <;> simp

/-- A composed run refuses in its first half or in its second. -/
theorem andThen_eq_refused {r : Result} {k : State → Result} {x : Refusal} :
    andThen r k = .refused x ↔ r = .refused x ∨ ∃ s, r = .next s ∧ k s = .refused x := by
  cases r <;> simp

/-! ### Regions -/

/-- The addresses of a region (R63). -/
def regionRange : Region → Nat → Prop
  | .romLow, n => n < 0x4000
  | .romHigh, n => 0x4000 ≤ n ∧ n < 0x8000
  | .extRam, n => 0xA000 ≤ n ∧ n < 0xC000
  | .wram, n => 0xC000 ≤ n ∧ n < 0xE000
  | .echo, n => 0xE000 ≤ n ∧ n < 0xFE00
  | .hram, n => 0xFF80 ≤ n ∧ n < 0xFFFF
  | .ifReg, n => n = 0xFF0F
  | .ieReg, n => n = 0xFFFF
  | .dmaTrigger, n => n = 0xFF46
  | .unmapped, n => 0xFEA0 ≤ n ∧ n < 0xFF80 ∧ n ≠ 0xFF0F ∧ n ≠ 0xFF46
  | .device _, n => 0x8000 ≤ n ∧ n < 0xFF4C ∧ n ≠ 0xFF0F ∧ n ≠ 0xFF46 ∧ ¬(0xA000 ≤ n ∧ n < 0xFE00)

theorem region_ite {c : Prop} [Decidable c] {x y r : Region} (h : (if c then x else y) = r) : (c ∧ x = r) ∨ (¬c ∧ y = r) := by
  by_cases hc : c
  · exact .inl ⟨hc, by rwa [if_pos hc] at h⟩
  · exact .inr ⟨hc, by rwa [if_neg hc] at h⟩

/-- An address lies in the range of its region. -/
theorem regionRange_of_eq {a : Word} {r : Region} (h : regionOf a = r) : regionRange r a.toNat := by
  have : a.toNat < 65536 := a.isLt
  unfold regionOf at h
  dsimp only at h
  iterate 18
    rcases region_ite h with ⟨_, rfl⟩ | ⟨_, h⟩
    · simp only [regionRange]; omega
  subst h; simp only [regionRange]; omega

theorem regionOf_eq_dmaTrigger {a : Word} : regionOf a = .dmaTrigger ↔ a = 0xFF46 :=
  ⟨fun h => BitVec.eq_of_toNat_eq (regionRange_of_eq h), fun h => by subst h; decide⟩


/-! ### Reading -/

/-- A router read changes nothing but the two records of peripheral traffic. -/
theorem routerRead_snd (addr : Word) (s : State) : ∃ n ev,
    (routerRead addr s).2 = { s with draws := n, deviceEvents := ev } := by
  unfold routerRead deviceRead
  split <;> exact ⟨_, _, rfl⟩

@[simp] theorem routerRead_a (addr : Word) (s : State) : (routerRead addr s).2.a = s.a := by
  obtain ⟨n, ev, h⟩ := routerRead_snd addr s; rw [h]
@[simp] theorem routerRead_f (addr : Word) (s : State) : (routerRead addr s).2.f = s.f := by
  obtain ⟨n, ev, h⟩ := routerRead_snd addr s; rw [h]
@[simp] theorem routerRead_b (addr : Word) (s : State) : (routerRead addr s).2.b = s.b := by
  obtain ⟨n, ev, h⟩ := routerRead_snd addr s; rw [h]
@[simp] theorem routerRead_c (addr : Word) (s : State) : (routerRead addr s).2.c = s.c := by
  obtain ⟨n, ev, h⟩ := routerRead_snd addr s; rw [h]
@[simp] theorem routerRead_d (addr : Word) (s : State) : (routerRead addr s).2.d = s.d := by
  obtain ⟨n, ev, h⟩ := routerRead_snd addr s; rw [h]
@[simp] theorem routerRead_e (addr : Word) (s : State) : (routerRead addr s).2.e = s.e := by
  obtain ⟨n, ev, h⟩ := routerRead_snd addr s; rw [h]
@[simp] theorem routerRead_h (addr : Word) (s : State) : (routerRead addr s).2.h = s.h := by
  obtain ⟨n, ev, h⟩ := routerRead_snd addr s; rw [h]
@[simp] theorem routerRead_l (addr : Word) (s : State) : (routerRead addr s).2.l = s.l := by
  obtain ⟨n, ev, h⟩ := routerRead_snd addr s; rw [h]
@[simp] theorem routerRead_sp (addr : Word) (s : State) : (routerRead addr s).2.sp = s.sp := by
  obtain ⟨n, ev, h⟩ := routerRead_snd addr s; rw [h]
@[simp] theorem routerRead_pc (addr : Word) (s : State) : (routerRead addr s).2.pc = s.pc := by
  obtain ⟨n, ev, h⟩ := routerRead_snd addr s; rw [h]
@[simp] theorem routerRead_ime (addr : Word) (s : State) : (routerRead addr s).2.ime = s.ime := by
  obtain ⟨n, ev, h⟩ := routerRead_snd addr s; rw [h]
@[simp] theorem routerRead_halted (addr : Word) (s : State) : (routerRead addr s).2.halted = s.halted := by
  obtain ⟨n, ev, h⟩ := routerRead_snd addr s; rw [h]
@[simp] theorem routerRead_eiPending (addr : Word) (s : State) : (routerRead addr s).2.eiPending = s.eiPending := by
  obtain ⟨n, ev, h⟩ := routerRead_snd addr s; rw [h]
@[simp] theorem routerRead_iflag (addr : Word) (s : State) : (routerRead addr s).2.iflag = s.iflag := by
  obtain ⟨n, ev, h⟩ := routerRead_snd addr s; rw [h]
@[simp] theorem routerRead_ienable (addr : Word) (s : State) : (routerRead addr s).2.ienable = s.ienable := by
  obtain ⟨n, ev, h⟩ := routerRead_snd addr s; rw [h]
@[simp] theorem routerRead_wram (addr : Word) (s : State) : (routerRead addr s).2.wram = s.wram := by
  obtain ⟨n, ev, h⟩ := routerRead_snd addr s; rw [h]
@[simp] theorem routerRead_hram (addr : Word) (s : State) : (routerRead addr s).2.hram = s.hram := by
  obtain ⟨n, ev, h⟩ := routerRead_snd addr s; rw [h]
@[simp] theorem routerRead_rom (addr : Word) (s : State) : (routerRead addr s).2.rom = s.rom := by
  obtain ⟨n, ev, h⟩ := routerRead_snd addr s; rw [h]
@[simp] theorem routerRead_romBanks (addr : Word) (s : State) : (routerRead addr s).2.romBanks = s.romBanks := by
  obtain ⟨n, ev, h⟩ := routerRead_snd addr s; rw [h]
@[simp] theorem routerRead_cartRam (addr : Word) (s : State) : (routerRead addr s).2.cartRam = s.cartRam := by
  obtain ⟨n, ev, h⟩ := routerRead_snd addr s; rw [h]
@[simp] theorem routerRead_ramSize (addr : Word) (s : State) : (routerRead addr s).2.ramSize = s.ramSize := by
  obtain ⟨n, ev, h⟩ := routerRead_snd addr s; rw [h]
@[simp] theorem routerRead_ramEnable (addr : Word) (s : State) : (routerRead addr s).2.ramEnable = s.ramEnable := by
  obtain ⟨n, ev, h⟩ := routerRead_snd addr s; rw [h]
@[simp] theorem routerRead_bankLo (addr : Word) (s : State) : (routerRead addr s).2.bankLo = s.bankLo := by
  obtain ⟨n, ev, h⟩ := routerRead_snd addr s; rw [h]
@[simp] theorem routerRead_bankHi (addr : Word) (s : State) : (routerRead addr s).2.bankHi = s.bankHi := by
  obtain ⟨n, ev, h⟩ := routerRead_snd addr s; rw [h]
@[simp] theorem routerRead_bankMode (addr : Word) (s : State) : (routerRead addr s).2.bankMode = s.bankMode := by
  obtain ⟨n, ev, h⟩ := routerRead_snd addr s; rw [h]
@[simp] theorem routerRead_tick (addr : Word) (s : State) : (routerRead addr s).2.tick = s.tick := by
  obtain ⟨n, ev, h⟩ := routerRead_snd addr s; rw [h]
@[simp] theorem routerRead_cycles (addr : Word) (s : State) : (routerRead addr s).2.cycles = s.cycles := by
  obtain ⟨n, ev, h⟩ := routerRead_snd addr s; rw [h]
@[simp] theorem routerRead_reports (addr : Word) (s : State) : (routerRead addr s).2.reports = s.reports := by
  obtain ⟨n, ev, h⟩ := routerRead_snd addr s; rw [h]
@[simp] theorem routerRead_updates (addr : Word) (s : State) : (routerRead addr s).2.updates = s.updates := by
  obtain ⟨n, ev, h⟩ := routerRead_snd addr s; rw [h]

@[simp] theorem memRead_a (addr : Word) (s : State) : (memRead addr s).2.a = s.a := by simp [memRead]
@[simp] theorem memRead_f (addr : Word) (s : State) : (memRead addr s).2.f = s.f := by simp [memRead]
@[simp] theorem memRead_b (addr : Word) (s : State) : (memRead addr s).2.b = s.b := by simp [memRead]
@[simp] theorem memRead_c (addr : Word) (s : State) : (memRead addr s).2.c = s.c := by simp [memRead]
@[simp] theorem memRead_d (addr : Word) (s : State) : (memRead addr s).2.d = s.d := by simp [memRead]
@[simp] theorem memRead_e (addr : Word) (s : State) : (memRead addr s).2.e = s.e := by simp [memRead]
@[simp] theorem memRead_h (addr : Word) (s : State) : (memRead addr s).2.h = s.h := by simp [memRead]
@[simp] theorem memRead_l (addr : Word) (s : State) : (memRead addr s).2.l = s.l := by simp [memRead]
@[simp] theorem memRead_sp (addr : Word) (s : State) : (memRead addr s).2.sp = s.sp := by simp [memRead]
@[simp] theorem memRead_pc (addr : Word) (s : State) : (memRead addr s).2.pc = s.pc := by simp [memRead]
@[simp] theorem memRead_ime (addr : Word) (s : State) : (memRead addr s).2.ime = s.ime := by simp [memRead]
@[simp] theorem memRead_halted (addr : Word) (s : State) : (memRead addr s).2.halted = s.halted := by simp [memRead]
@[simp] theorem memRead_eiPending (addr : Word) (s : State) : (memRead addr s).2.eiPending = s.eiPending := by simp [memRead]
@[simp] theorem memRead_iflag (addr : Word) (s : State) : (memRead addr s).2.iflag = s.iflag := by simp [memRead]
@[simp] theorem memRead_ienable (addr : Word) (s : State) : (memRead addr s).2.ienable = s.ienable := by simp [memRead]
@[simp] theorem memRead_wram (addr : Word) (s : State) : (memRead addr s).2.wram = s.wram := by simp [memRead]
@[simp] theorem memRead_hram (addr : Word) (s : State) : (memRead addr s).2.hram = s.hram := by simp [memRead]
@[simp] theorem memRead_rom (addr : Word) (s : State) : (memRead addr s).2.rom = s.rom := by simp [memRead]
@[simp] theorem memRead_romBanks (addr : Word) (s : State) : (memRead addr s).2.romBanks = s.romBanks := by simp [memRead]
@[simp] theorem memRead_cartRam (addr : Word) (s : State) : (memRead addr s).2.cartRam = s.cartRam := by simp [memRead]
@[simp] theorem memRead_ramSize (addr : Word) (s : State) : (memRead addr s).2.ramSize = s.ramSize := by simp [memRead]
@[simp] theorem memRead_ramEnable (addr : Word) (s : State) : (memRead addr s).2.ramEnable = s.ramEnable := by simp [memRead]
@[simp] theorem memRead_bankLo (addr : Word) (s : State) : (memRead addr s).2.bankLo = s.bankLo := by simp [memRead]
@[simp] theorem memRead_bankHi (addr : Word) (s : State) : (memRead addr s).2.bankHi = s.bankHi := by simp [memRead]
@[simp] theorem memRead_bankMode (addr : Word) (s : State) : (memRead addr s).2.bankMode = s.bankMode := by simp [memRead]
@[simp] theorem memRead_tick (addr : Word) (s : State) : (memRead addr s).2.tick = s.tick + Config.cycleQuantum := by simp [memRead]
@[simp] theorem memRead_cycles (addr : Word) (s : State) : (memRead addr s).2.cycles = s.cycles := by simp [memRead]
@[simp] theorem memRead_reports (addr : Word) (s : State) : (memRead addr s).2.reports = s.reports := by simp [memRead]
@[simp] theorem memRead_updates (addr : Word) (s : State) : (memRead addr s).2.updates = s.updates := by simp [memRead]

@[simp] theorem fetch8_a (s : State) : (fetch8 s).2.a = s.a := by simp [fetch8]
@[simp] theorem fetch8_f (s : State) : (fetch8 s).2.f = s.f := by simp [fetch8]
@[simp] theorem fetch8_b (s : State) : (fetch8 s).2.b = s.b := by simp [fetch8]
@[simp] theorem fetch8_c (s : State) : (fetch8 s).2.c = s.c := by simp [fetch8]
@[simp] theorem fetch8_d (s : State) : (fetch8 s).2.d = s.d := by simp [fetch8]
@[simp] theorem fetch8_e (s : State) : (fetch8 s).2.e = s.e := by simp [fetch8]
@[simp] theorem fetch8_h (s : State) : (fetch8 s).2.h = s.h := by simp [fetch8]
@[simp] theorem fetch8_l (s : State) : (fetch8 s).2.l = s.l := by simp [fetch8]
@[simp] theorem fetch8_sp (s : State) : (fetch8 s).2.sp = s.sp := by simp [fetch8]
@[simp] theorem fetch8_pc (s : State) : (fetch8 s).2.pc = s.pc + 1 := by simp [fetch8]
@[simp] theorem fetch8_ime (s : State) : (fetch8 s).2.ime = s.ime := by simp [fetch8]
@[simp] theorem fetch8_halted (s : State) : (fetch8 s).2.halted = s.halted := by simp [fetch8]
@[simp] theorem fetch8_eiPending (s : State) : (fetch8 s).2.eiPending = s.eiPending := by simp [fetch8]
@[simp] theorem fetch8_iflag (s : State) : (fetch8 s).2.iflag = s.iflag := by simp [fetch8]
@[simp] theorem fetch8_ienable (s : State) : (fetch8 s).2.ienable = s.ienable := by simp [fetch8]
@[simp] theorem fetch8_wram (s : State) : (fetch8 s).2.wram = s.wram := by simp [fetch8]
@[simp] theorem fetch8_hram (s : State) : (fetch8 s).2.hram = s.hram := by simp [fetch8]
@[simp] theorem fetch8_rom (s : State) : (fetch8 s).2.rom = s.rom := by simp [fetch8]
@[simp] theorem fetch8_romBanks (s : State) : (fetch8 s).2.romBanks = s.romBanks := by simp [fetch8]
@[simp] theorem fetch8_cartRam (s : State) : (fetch8 s).2.cartRam = s.cartRam := by simp [fetch8]
@[simp] theorem fetch8_ramSize (s : State) : (fetch8 s).2.ramSize = s.ramSize := by simp [fetch8]
@[simp] theorem fetch8_ramEnable (s : State) : (fetch8 s).2.ramEnable = s.ramEnable := by simp [fetch8]
@[simp] theorem fetch8_bankLo (s : State) : (fetch8 s).2.bankLo = s.bankLo := by simp [fetch8]
@[simp] theorem fetch8_bankHi (s : State) : (fetch8 s).2.bankHi = s.bankHi := by simp [fetch8]
@[simp] theorem fetch8_bankMode (s : State) : (fetch8 s).2.bankMode = s.bankMode := by simp [fetch8]
@[simp] theorem fetch8_tick (s : State) : (fetch8 s).2.tick = s.tick + Config.cycleQuantum := by simp [fetch8]
@[simp] theorem fetch8_cycles (s : State) : (fetch8 s).2.cycles = s.cycles := by simp [fetch8]
@[simp] theorem fetch8_reports (s : State) : (fetch8 s).2.reports = s.reports := by simp [fetch8]
@[simp] theorem fetch8_updates (s : State) : (fetch8 s).2.updates = s.updates := by simp [fetch8]

@[simp] theorem memRead16_a (addr : Word) (s : State) : (memRead16 addr s).2.a = s.a := by simp [memRead16]
@[simp] theorem memRead16_f (addr : Word) (s : State) : (memRead16 addr s).2.f = s.f := by simp [memRead16]
@[simp] theorem memRead16_b (addr : Word) (s : State) : (memRead16 addr s).2.b = s.b := by simp [memRead16]
@[simp] theorem memRead16_c (addr : Word) (s : State) : (memRead16 addr s).2.c = s.c := by simp [memRead16]
@[simp] theorem memRead16_d (addr : Word) (s : State) : (memRead16 addr s).2.d = s.d := by simp [memRead16]
@[simp] theorem memRead16_e (addr : Word) (s : State) : (memRead16 addr s).2.e = s.e := by simp [memRead16]
@[simp] theorem memRead16_h (addr : Word) (s : State) : (memRead16 addr s).2.h = s.h := by simp [memRead16]
@[simp] theorem memRead16_l (addr : Word) (s : State) : (memRead16 addr s).2.l = s.l := by simp [memRead16]
@[simp] theorem memRead16_sp (addr : Word) (s : State) : (memRead16 addr s).2.sp = s.sp := by simp [memRead16]
@[simp] theorem memRead16_pc (addr : Word) (s : State) : (memRead16 addr s).2.pc = s.pc := by simp [memRead16]
@[simp] theorem memRead16_ime (addr : Word) (s : State) : (memRead16 addr s).2.ime = s.ime := by simp [memRead16]
@[simp] theorem memRead16_halted (addr : Word) (s : State) : (memRead16 addr s).2.halted = s.halted := by simp [memRead16]
@[simp] theorem memRead16_eiPending (addr : Word) (s : State) : (memRead16 addr s).2.eiPending = s.eiPending := by simp [memRead16]
@[simp] theorem memRead16_iflag (addr : Word) (s : State) : (memRead16 addr s).2.iflag = s.iflag := by simp [memRead16]
@[simp] theorem memRead16_ienable (addr : Word) (s : State) : (memRead16 addr s).2.ienable = s.ienable := by simp [memRead16]
@[simp] theorem memRead16_wram (addr : Word) (s : State) : (memRead16 addr s).2.wram = s.wram := by simp [memRead16]
@[simp] theorem memRead16_hram (addr : Word) (s : State) : (memRead16 addr s).2.hram = s.hram := by simp [memRead16]
@[simp] theorem memRead16_rom (addr : Word) (s : State) : (memRead16 addr s).2.rom = s.rom := by simp [memRead16]
@[simp] theorem memRead16_romBanks (addr : Word) (s : State) : (memRead16 addr s).2.romBanks = s.romBanks := by simp [memRead16]
@[simp] theorem memRead16_cartRam (addr : Word) (s : State) : (memRead16 addr s).2.cartRam = s.cartRam := by simp [memRead16]
@[simp] theorem memRead16_ramSize (addr : Word) (s : State) : (memRead16 addr s).2.ramSize = s.ramSize := by simp [memRead16]
@[simp] theorem memRead16_ramEnable (addr : Word) (s : State) : (memRead16 addr s).2.ramEnable = s.ramEnable := by simp [memRead16]
@[simp] theorem memRead16_bankLo (addr : Word) (s : State) : (memRead16 addr s).2.bankLo = s.bankLo := by simp [memRead16]
@[simp] theorem memRead16_bankHi (addr : Word) (s : State) : (memRead16 addr s).2.bankHi = s.bankHi := by simp [memRead16]
@[simp] theorem memRead16_bankMode (addr : Word) (s : State) : (memRead16 addr s).2.bankMode = s.bankMode := by simp [memRead16]
@[simp] theorem memRead16_tick (addr : Word) (s : State) : (memRead16 addr s).2.tick = s.tick + Config.cycleQuantum + Config.cycleQuantum := by simp [memRead16]
@[simp] theorem memRead16_cycles (addr : Word) (s : State) : (memRead16 addr s).2.cycles = s.cycles := by simp [memRead16]
@[simp] theorem memRead16_reports (addr : Word) (s : State) : (memRead16 addr s).2.reports = s.reports := by simp [memRead16]
@[simp] theorem memRead16_updates (addr : Word) (s : State) : (memRead16 addr s).2.updates = s.updates := by simp [memRead16]

@[simp] theorem pop16_a (s : State) : (pop16 s).2.a = s.a := by simp [pop16]
@[simp] theorem pop16_f (s : State) : (pop16 s).2.f = s.f := by simp [pop16]
@[simp] theorem pop16_b (s : State) : (pop16 s).2.b = s.b := by simp [pop16]
@[simp] theorem pop16_c (s : State) : (pop16 s).2.c = s.c := by simp [pop16]
@[simp] theorem pop16_d (s : State) : (pop16 s).2.d = s.d := by simp [pop16]
@[simp] theorem pop16_e (s : State) : (pop16 s).2.e = s.e := by simp [pop16]
@[simp] theorem pop16_h (s : State) : (pop16 s).2.h = s.h := by simp [pop16]
@[simp] theorem pop16_l (s : State) : (pop16 s).2.l = s.l := by simp [pop16]
@[simp] theorem pop16_sp (s : State) : (pop16 s).2.sp = s.sp + 2 := by simp [pop16]
@[simp] theorem pop16_pc (s : State) : (pop16 s).2.pc = s.pc := by simp [pop16]
@[simp] theorem pop16_ime (s : State) : (pop16 s).2.ime = s.ime := by simp [pop16]
@[simp] theorem pop16_halted (s : State) : (pop16 s).2.halted = s.halted := by simp [pop16]
@[simp] theorem pop16_eiPending (s : State) : (pop16 s).2.eiPending = s.eiPending := by simp [pop16]
@[simp] theorem pop16_iflag (s : State) : (pop16 s).2.iflag = s.iflag := by simp [pop16]
@[simp] theorem pop16_ienable (s : State) : (pop16 s).2.ienable = s.ienable := by simp [pop16]
@[simp] theorem pop16_wram (s : State) : (pop16 s).2.wram = s.wram := by simp [pop16]
@[simp] theorem pop16_hram (s : State) : (pop16 s).2.hram = s.hram := by simp [pop16]
@[simp] theorem pop16_rom (s : State) : (pop16 s).2.rom = s.rom := by simp [pop16]
@[simp] theorem pop16_romBanks (s : State) : (pop16 s).2.romBanks = s.romBanks := by simp [pop16]
@[simp] theorem pop16_cartRam (s : State) : (pop16 s).2.cartRam = s.cartRam := by simp [pop16]
@[simp] theorem pop16_ramSize (s : State) : (pop16 s).2.ramSize = s.ramSize := by simp [pop16]
@[simp] theorem pop16_ramEnable (s : State) : (pop16 s).2.ramEnable = s.ramEnable := by simp [pop16]
@[simp] theorem pop16_bankLo (s : State) : (pop16 s).2.bankLo = s.bankLo := by simp [pop16]
@[simp] theorem pop16_bankHi (s : State) : (pop16 s).2.bankHi = s.bankHi := by simp [pop16]
@[simp] theorem pop16_bankMode (s : State) : (pop16 s).2.bankMode = s.bankMode := by simp [pop16]
@[simp] theorem pop16_tick (s : State) : (pop16 s).2.tick = s.tick + Config.cycleQuantum + Config.cycleQuantum := by simp [pop16]
@[simp] theorem pop16_cycles (s : State) : (pop16 s).2.cycles = s.cycles := by simp [pop16]
@[simp] theorem pop16_reports (s : State) : (pop16 s).2.reports = s.reports := by simp [pop16]
@[simp] theorem pop16_updates (s : State) : (pop16 s).2.updates = s.updates := by simp [pop16]

/-- Reading an operand changes nothing but `tick` and the records of peripheral traffic. -/
theorem readOperand_snd (o : Operand8) (s : State) : ∃ q n ev,
    (readOperand o s).2 = { s with tick := q, draws := n, deviceEvents := ev } := by
  cases o with
  | reg r => exact ⟨_, _, _, rfl⟩
  | atHl =>
    obtain ⟨n, ev, h⟩ := routerRead_snd s.hl (addTick Config.cycleQuantum s)
    exact ⟨_, n, ev, by simp [readOperand, memRead, h]; rfl⟩

@[simp] theorem readOperand_a (o : Operand8) (s : State) : (readOperand o s).2.a = s.a := by
  obtain ⟨q, n, ev, h⟩ := readOperand_snd o s; rw [h]
@[simp] theorem readOperand_f (o : Operand8) (s : State) : (readOperand o s).2.f = s.f := by
  obtain ⟨q, n, ev, h⟩ := readOperand_snd o s; rw [h]
@[simp] theorem readOperand_b (o : Operand8) (s : State) : (readOperand o s).2.b = s.b := by
  obtain ⟨q, n, ev, h⟩ := readOperand_snd o s; rw [h]
@[simp] theorem readOperand_c (o : Operand8) (s : State) : (readOperand o s).2.c = s.c := by
  obtain ⟨q, n, ev, h⟩ := readOperand_snd o s; rw [h]
@[simp] theorem readOperand_d (o : Operand8) (s : State) : (readOperand o s).2.d = s.d := by
  obtain ⟨q, n, ev, h⟩ := readOperand_snd o s; rw [h]
@[simp] theorem readOperand_e (o : Operand8) (s : State) : (readOperand o s).2.e = s.e := by
  obtain ⟨q, n, ev, h⟩ := readOperand_snd o s; rw [h]
@[simp] theorem readOperand_h (o : Operand8) (s : State) : (readOperand o s).2.h = s.h := by
  obtain ⟨q, n, ev, h⟩ := readOperand_snd o s; rw [h]
@[simp] theorem readOperand_l (o : Operand8) (s : State) : (readOperand o s).2.l = s.l := by
  obtain ⟨q, n, ev, h⟩ := readOperand_snd o s; rw [h]
@[simp] theorem readOperand_sp (o : Operand8) (s : State) : (readOperand o s).2.sp = s.sp := by
  obtain ⟨q, n, ev, h⟩ := readOperand_snd o s; rw [h]
@[simp] theorem readOperand_pc (o : Operand8) (s : State) : (readOperand o s).2.pc = s.pc := by
  obtain ⟨q, n, ev, h⟩ := readOperand_snd o s; rw [h]
@[simp] theorem readOperand_ime (o : Operand8) (s : State) : (readOperand o s).2.ime = s.ime := by
  obtain ⟨q, n, ev, h⟩ := readOperand_snd o s; rw [h]
@[simp] theorem readOperand_halted (o : Operand8) (s : State) : (readOperand o s).2.halted = s.halted := by
  obtain ⟨q, n, ev, h⟩ := readOperand_snd o s; rw [h]
@[simp] theorem readOperand_eiPending (o : Operand8) (s : State) : (readOperand o s).2.eiPending = s.eiPending := by
  obtain ⟨q, n, ev, h⟩ := readOperand_snd o s; rw [h]
@[simp] theorem readOperand_iflag (o : Operand8) (s : State) : (readOperand o s).2.iflag = s.iflag := by
  obtain ⟨q, n, ev, h⟩ := readOperand_snd o s; rw [h]
@[simp] theorem readOperand_ienable (o : Operand8) (s : State) : (readOperand o s).2.ienable = s.ienable := by
  obtain ⟨q, n, ev, h⟩ := readOperand_snd o s; rw [h]
@[simp] theorem readOperand_wram (o : Operand8) (s : State) : (readOperand o s).2.wram = s.wram := by
  obtain ⟨q, n, ev, h⟩ := readOperand_snd o s; rw [h]
@[simp] theorem readOperand_hram (o : Operand8) (s : State) : (readOperand o s).2.hram = s.hram := by
  obtain ⟨q, n, ev, h⟩ := readOperand_snd o s; rw [h]
@[simp] theorem readOperand_rom (o : Operand8) (s : State) : (readOperand o s).2.rom = s.rom := by
  obtain ⟨q, n, ev, h⟩ := readOperand_snd o s; rw [h]
@[simp] theorem readOperand_romBanks (o : Operand8) (s : State) : (readOperand o s).2.romBanks = s.romBanks := by
  obtain ⟨q, n, ev, h⟩ := readOperand_snd o s; rw [h]
@[simp] theorem readOperand_cartRam (o : Operand8) (s : State) : (readOperand o s).2.cartRam = s.cartRam := by
  obtain ⟨q, n, ev, h⟩ := readOperand_snd o s; rw [h]
@[simp] theorem readOperand_ramSize (o : Operand8) (s : State) : (readOperand o s).2.ramSize = s.ramSize := by
  obtain ⟨q, n, ev, h⟩ := readOperand_snd o s; rw [h]
@[simp] theorem readOperand_ramEnable (o : Operand8) (s : State) : (readOperand o s).2.ramEnable = s.ramEnable := by
  obtain ⟨q, n, ev, h⟩ := readOperand_snd o s; rw [h]
@[simp] theorem readOperand_bankLo (o : Operand8) (s : State) : (readOperand o s).2.bankLo = s.bankLo := by
  obtain ⟨q, n, ev, h⟩ := readOperand_snd o s; rw [h]
@[simp] theorem readOperand_bankHi (o : Operand8) (s : State) : (readOperand o s).2.bankHi = s.bankHi := by
  obtain ⟨q, n, ev, h⟩ := readOperand_snd o s; rw [h]
@[simp] theorem readOperand_bankMode (o : Operand8) (s : State) : (readOperand o s).2.bankMode = s.bankMode := by
  obtain ⟨q, n, ev, h⟩ := readOperand_snd o s; rw [h]
@[simp] theorem readOperand_cycles (o : Operand8) (s : State) : (readOperand o s).2.cycles = s.cycles := by
  obtain ⟨q, n, ev, h⟩ := readOperand_snd o s; rw [h]
@[simp] theorem readOperand_reports (o : Operand8) (s : State) : (readOperand o s).2.reports = s.reports := by
  obtain ⟨q, n, ev, h⟩ := readOperand_snd o s; rw [h]
@[simp] theorem readOperand_updates (o : Operand8) (s : State) : (readOperand o s).2.updates = s.updates := by
  obtain ⟨q, n, ev, h⟩ := readOperand_snd o s; rw [h]

/-- The DMA copy changes nothing but the records of peripheral traffic (R72). -/
theorem dmaCopy_eq (v : Byte) (s : State) : ∃ n ev, dmaCopy v s = { s with draws := n, deviceEvents := ev } := by
  unfold dmaCopy
  generalize List.range Config.dmaLen = l
  induction l generalizing s with
  | nil => exact ⟨_, _, rfl⟩
  | cons i l ih =>
    obtain ⟨n, ev, h⟩ := routerRead_snd (BitVec.ofNat 16 (v.toNat * 256 + i)) s
    obtain ⟨n', ev', h'⟩ := ih (dmaByte v s i)
    refine ⟨n', ev', ?_⟩
    rw [List.foldl_cons, h']
    simp [dmaByte, deviceWrite, h]

/-! ### Writing -/

/-- A router write that stops the run is a write of an illegal source to the DMA register (R72, R304). -/
theorem routerWrite_eq_fault {addr : Word} {v : Byte} {s : State} {x : Fault} :
    routerWrite addr v s = .fault x ↔ regionOf addr = .dmaTrigger ∧ dmaSourceOk v = false ∧ x = .dmaSource v := by
  unfold routerWrite
  split <;> simp_all
  cases dmaSourceOk v <;> simp [eq_comm]

/-- A router write never refuses. -/
theorem routerWrite_ne_refused {addr : Word} {v : Byte} {s : State} {x : Refusal} :
    routerWrite addr v s ≠ .refused x := by
  unfold routerWrite
  split <;> simp
  split <;> simp

/-- The state after a router write, where there is one. -/
structure BusWrote (s t : State) : Prop where
  a : t.a = s.a
  f : t.f = s.f
  b : t.b = s.b
  c : t.c = s.c
  d : t.d = s.d
  e : t.e = s.e
  h : t.h = s.h
  l : t.l = s.l
  sp : t.sp = s.sp
  pc : t.pc = s.pc
  ime : t.ime = s.ime
  halted : t.halted = s.halted
  eiPending : t.eiPending = s.eiPending
  rom : t.rom = s.rom
  romBanks : t.romBanks = s.romBanks
  ramSize : t.ramSize = s.ramSize
  cycles : t.cycles = s.cycles
  reports : t.reports = s.reports
  updates : t.updates = s.updates

/-- A router write leaves the processor, the ROM image and the sizes alone (R40, R80). -/
theorem routerWrite_frame {addr : Word} {v : Byte} {s t : State} (h : routerWrite addr v s = .next t) :
    BusWrote s t ∧ t.tick = s.tick := by
  unfold routerWrite at h
  split at h
  case h_9 =>
    split at h
    · obtain ⟨n, ev, hd⟩ := dmaCopy_eq v s
      rw [hd] at h; cases h; exact ⟨⟨rfl, rfl, rfl, rfl, rfl, rfl, rfl, rfl, rfl, rfl, rfl, rfl, rfl, rfl, rfl, rfl, rfl, rfl, rfl⟩, rfl⟩
    · cases h
  all_goals cases h
  case h_1 | h_2 => unfold controllerWrite; (repeat' split) <;> exact ⟨⟨rfl, rfl, rfl, rfl, rfl, rfl, rfl, rfl, rfl, rfl, rfl, rfl, rfl, rfl, rfl, rfl, rfl, rfl, rfl⟩, rfl⟩
  case h_3 => split <;> exact ⟨⟨rfl, rfl, rfl, rfl, rfl, rfl, rfl, rfl, rfl, rfl, rfl, rfl, rfl, rfl, rfl, rfl, rfl, rfl, rfl⟩, rfl⟩
  all_goals exact ⟨⟨rfl, rfl, rfl, rfl, rfl, rfl, rfl, rfl, rfl, rfl, rfl, rfl, rfl, rfl, rfl, rfl, rfl, rfl, rfl⟩, rfl⟩

theorem BusWrote.refl (s : State) : BusWrote s s := ⟨rfl, rfl, rfl, rfl, rfl, rfl, rfl, rfl, rfl, rfl, rfl, rfl, rfl, rfl, rfl, rfl, rfl, rfl, rfl⟩

theorem BusWrote.trans {s t u : State} (h : BusWrote s t) (k : BusWrote t u) : BusWrote s u :=
  ⟨k.a.trans h.a, k.f.trans h.f, k.b.trans h.b, k.c.trans h.c, k.d.trans h.d, k.e.trans h.e, k.h.trans h.h, k.l.trans h.l, k.sp.trans h.sp, k.pc.trans h.pc, k.ime.trans h.ime, k.halted.trans h.halted, k.eiPending.trans h.eiPending, k.rom.trans h.rom, k.romBanks.trans h.romBanks, k.ramSize.trans h.ramSize, k.cycles.trans h.cycles, k.reports.trans h.reports, k.updates.trans h.updates⟩

/-- A processor write: what a router write leaves alone, and one quantum (R62). -/
theorem memWrite_frame {addr : Word} {v : Byte} {s t : State} (h : memWrite addr v s = .next t) :
    BusWrote s t ∧ t.tick = s.tick + Config.cycleQuantum := by
  obtain ⟨hb, ht⟩ := routerWrite_frame h
  exact ⟨⟨hb.a, hb.f, hb.b, hb.c, hb.d, hb.e, hb.h, hb.l, hb.sp, hb.pc, hb.ime, hb.halted, hb.eiPending, hb.rom, hb.romBanks, hb.ramSize, hb.cycles, hb.reports, hb.updates⟩, by simpa using ht⟩

/-- A 16-bit write: the same, and two quanta (R75). -/
theorem memWrite16_frame {addr v : Word} {s t : State} (h : memWrite16 addr v s = .next t) :
    BusWrote s t ∧ t.tick = s.tick + Config.cycleQuantum + Config.cycleQuantum := by
  obtain ⟨m, h1, h2⟩ := andThen_eq_next.mp h
  obtain ⟨b1, t1⟩ := memWrite_frame h1
  obtain ⟨b2, t2⟩ := memWrite_frame h2
  exact ⟨b1.trans b2, by rw [t2, t1]⟩

/-- `Push16` moves SP down by two and leaves alone what a bus write leaves alone (R186). -/
theorem push16_frame {v : Word} {s t : State} (h : push16 v s = .next t) :
    BusWrote (s.setSP (s.sp - 2)) t ∧ t.tick = s.tick + Config.cycleQuantum + Config.cycleQuantum :=
  memWrite16_frame h

/-! ### `EI_DELAY` = 0 -/

@[simp] theorem enableUnder_zero (s : State) : enableUnder 0 s = { s with ime := true } := rfl
@[simp] theorem disableUnder_zero (s : State) : disableUnder 0 s = { s with ime := false } := rfl
@[simp] theorem settleEnable_zero (before : Bool) (s : State) : settleEnable 0 before s = s := rfl

end Sys2Proof.Machine
end

