-- ==== Sys2Proof/Laws/Exec.lean ====
section
/-! SUPPORT. The meaning of an instruction depends on its form alone: 512 arms read as 45. -/

namespace Sys2Proof.Machine

/-- The shared operation behind each form. -/
def execForm : Form → State → Result
  | .ld8 dst src => ld8 dst src
  | .ld8n dst n => ld8n dst n
  | .loadA m => loadA m
  | .storeA m => storeA m
  | .ld16 p nn => ld16 p nn
  | .storeSp nn => storeSp nn
  | .ldSpHl => ldSpHl
  | .ldHlSpE e => ldHlSpE e
  | .push q => pushPair q
  | .pop q => popPair q
  | .alu o src => aluOperand o src
  | .aluN o n => aluImmediate o n
  | .inc8 x => inc8Operand x
  | .dec8 x => dec8Operand x
  | .addHl p => addHl p
  | .inc16 p => inc16 p
  | .dec16 p => dec16 p
  | .addSpE e => addSp e
  | .nop => noEffect
  | .rotA o => rotateA o
  | .daa => adjustA
  | .cpl => complementA
  | .scf => setCarry
  | .ccf => complementCarry
  | .jp nn => jumpTo nn
  | .jpCc cc nn => jumpIf cc nn
  | .jpHl => jumpHl
  | .jr e => jumpRel e
  | .jrCc cc e => jumpRelIf cc e
  | .call nn => callTo nn
  | .callCc cc nn => callIf cc nn
  | .ret => returnTo
  | .retCc cc => returnIf cc
  | .reti => returnInterrupt
  | .rst t => restart t
  | .halt => enterHalt
  | .stop => stopNoEffect
  | .di => disableInterrupts
  | .ei => enableInterrupts
  | .illegal op => illegalOpcode op
  | .cbByte op2 => extendedByte op2
  | .rot o x => rotateOperand o x
  | .bit b x => testBit b x
  | .res b x => resetBit b x
  | .set b x => setBit b x

/-- Every arm of `exec` is the shared operation of its form. -/
theorem exec_eq_form (i : Instr) (s : State) : exec i s = execForm i.form s := by
  cases i <;> rfl

/-- The form of an extended byte by its fields (R144). -/
def extendedForm (op2 : Byte) : Form :=
  let y : Fin 8 := ⟨op2.toNat / 8 % 8, Nat.mod_lt _ (by decide)⟩
  let z := operand8OfIndex (op2.toNat % 8)
  if op2.toNat / 64 = 0 then .rot (rotOpOfIndex y.val) z
  else if op2.toNat / 64 = 1 then .bit y z
  else if op2.toNat / 64 = 2 then .res y z
  else .set y z

/-- The decoded extended row has the form its fields say. -/
theorem decodeExtended_form (op2 : Byte) : (decodeExtended op2).form = extendedForm op2 := by
  have h : ∀ n : Fin 256, (decodeExtended (BitVec.ofFin n)).form = extendedForm (BitVec.ofFin n) := by decide +kernel
  exact h op2.toFin

theorem extendedByte_eq_form (op2 : Byte) (s : State) : extendedByte op2 s = execForm (extendedForm op2) s := by
  unfold extendedByte extendedForm
  simp only
  split
  · rfl
  · split
    · rfl
    · split <;> rfl

theorem form_eq_cbByte {i : Instr} {op2 : Byte} (h : i.form = .cbByte op2) : i = .prefixCb op2 := by
  cases i <;> first | (injection h with h; rw [h]) | cases h

/-- The meaning of an instruction is the shared operation of its resolved form, the prefix row included (R255). -/
theorem exec_eq_opForm (i : Instr) (s : State) : exec i s = execForm i.opForm s := by
  rw [exec_eq_form]
  unfold Instr.opForm
  split
  · next op2 h => rw [h, decodeExtended_form]; exact extendedByte_eq_form op2 s
  · rfl

/-- A resolved form is never the prefix. -/
theorem opForm_ne_cbByte (i : Instr) (op2 : Byte) : i.opForm ≠ .cbByte op2 := by
  unfold Instr.opForm
  split
  · next o h =>
    rw [decodeExtended_form]
    unfold extendedForm
    simp only
    repeat' split
    all_goals simp
  · next h => intro hc; exact h op2 hc

end Sys2Proof.Machine
end

