-- ==== Sys2Proof/Laws/Bridge.lean ====
section
/-! SUPPORT. Bridges between the vocabulary of the statements and the machine's own definitions. -/

namespace Sys2Proof.Machine

open Sys2Proof.Spec

theorem packFlags_eq_flags (z n h c : Bool) : packFlags z n h c = flags z n h c := by
  revert z n h c; decide

@[simp] theorem maskF_packFlags (z n h c : Bool) : maskF (packFlags z n h c) = packFlags z n h c := by
  revert z n h c; decide

@[simp] theorem maskF_flags (z n h c : Bool) : maskF (flags z n h c) = flags z n h c := by
  revert z n h c; decide

theorem packFlags_bits (z n h c : Bool) :
    (packFlags z n h c).getLsbD 7 = z ∧ (packFlags z n h c).getLsbD 6 = n ∧ (packFlags z n h c).getLsbD 5 = h ∧
      (packFlags z n h c).getLsbD 4 = c ∧ packFlags z n h c &&& 0x0F = 0 := by
  revert z n h c; decide

/-- A test of all bytes by evaluation. -/
theorem forall_byte {p : Byte → Prop} (h : ∀ n : Fin 256, p (BitVec.ofFin n)) (v : Byte) : p v := h v.toFin

theorem byte_eq_zero (v : Byte) : (v == 0) = decide (v.toNat = 0) := by
  revert v; exact forall_byte (by decide +kernel)

theorem add8_eq_addResult (a b : Byte) (cin : Bool) : add8 a b cin = addResult a b cin.toNat := by
  unfold add8 addResult byte
  simp only [packFlags_eq_flags]
  congr 1

theorem sub8_eq_subResult (a b : Byte) (cin : Bool) : sub8 a b cin = subResult a b cin.toNat := by
  have h : a - b - BitVec.ofNat 8 cin.toNat = byte (512 + a.toNat - b.toNat - cin.toNat) := by
    apply BitVec.eq_of_toNat_eq
    have := a.isLt; have := b.isLt
    cases cin <;> simp [byte] <;> omega
  unfold sub8 subResult
  simp only [packFlags_eq_flags, h, byte_eq_zero]

theorem rotate_eq (o : RotOp) (v : Byte) (c : Bool) : rotate o v c = (rotated o v c, shiftedOut o v) := by
  revert v
  cases o <;> cases c <;> exact forall_byte (by decide +kernel)

theorem inc8_eq (v : Byte) (c : Bool) :
    inc8 v c = (byte (v.toNat + 1), flags (decide (v.toNat = 255)) false (decide (v.toNat % 16 = 15)) c) := by
  revert v; cases c <;> exact forall_byte (by decide +kernel)

theorem dec8_eq (v : Byte) (c : Bool) :
    dec8 v c = (byte (v.toNat + 255), flags (decide (v.toNat = 1)) true (decide (v.toNat % 16 = 0)) c) := by
  revert v; cases c <;> exact forall_byte (by decide +kernel)

theorem daa_eq (a : Byte) (n h c : Bool) : daa a n h c = decimalAdjust a n h c := by
  revert a; cases n <;> cases h <;> cases c <;> exact forall_byte (by decide +kernel)

theorem addSpE_eq (sp : Word) (e : Byte) : addSpE sp e = offsetSum sp e := by
  have h : sp + sext8 e = BitVec.ofInt 16 (sp.toNat + e.toInt) := by
    unfold sext8
    rw [BitVec.ofInt_add]
    congr 1
    simp
  unfold addSpE offsetSum
  simp only [packFlags_eq_flags, h]

theorem clearMask_eq (b : Fin 8) (v : Byte) :
    v &&& ~~~(bitMask b.val) = byte (v.toNat - 2 ^ b.val * (v.getLsbD b.val).toNat) := by
  have : ∀ b : Fin 8, ∀ n : Fin 256, (BitVec.ofFin n : Byte) &&& ~~~(bitMask b.val) = byte ((BitVec.ofFin n : Byte).toNat - 2 ^ b.val * ((BitVec.ofFin n : Byte).getLsbD b.val).toNat) := by decide +kernel
  exact this b v.toFin

theorem setMask_eq (b : Fin 8) (v : Byte) :
    v ||| bitMask b.val = byte (v.toNat + 2 ^ b.val * (!v.getLsbD b.val).toNat) := by
  have : ∀ b : Fin 8, ∀ n : Fin 256, (BitVec.ofFin n : Byte) ||| bitMask b.val = byte ((BitVec.ofFin n : Byte).toNat + 2 ^ b.val * (!(BitVec.ofFin n : Byte).getLsbD b.val).toNat) := by decide +kernel
  exact this b v.toFin

theorem dmaSourceOk_eq (v : Byte) : dmaSourceOk v = true ↔ ¬(v.toNat < 0x80 ∨ 0xDF < v.toNat) := by
  simp [dmaSourceOk, Config.dmaSrcMin, Config.dmaSrcMax, BitVec.le_def]

/-- The bytes of an instruction by its form (R132, R143, R144). -/
def formBytes : Form → List Byte
  | .ld8 dst src => [byte (64 + 8 * operandNumber dst + operandNumber src)]
  | .ld8n dst n => [byte (8 * operandNumber dst + 6), n]
  | .loadA m => loadCode m
  | .storeA m => storeCode m
  | .ld16 p nn => [byte (16 * pairNumber p + 1), loByte nn, hiByte nn]
  | .storeSp nn => [0x08, loByte nn, hiByte nn]
  | .ldSpHl => [0xF9]
  | .ldHlSpE e => [0xF8, e]
  | .push q => [byte (192 + 16 * stackPairNumber q + 5)]
  | .pop q => [byte (192 + 16 * stackPairNumber q + 1)]
  | .alu o src => [byte (128 + 8 * aluNumber o + operandNumber src)]
  | .aluN o n => [byte (192 + 8 * aluNumber o + 6), n]
  | .inc8 x => [byte (8 * operandNumber x + 4)]
  | .dec8 x => [byte (8 * operandNumber x + 5)]
  | .addHl p => [byte (16 * pairNumber p + 9)]
  | .inc16 p => [byte (16 * pairNumber p + 3)]
  | .dec16 p => [byte (16 * pairNumber p + 11)]
  | .addSpE e => [0xE8, e]
  | .nop => [0x00]
  | .rotA o => [byte (8 * rotNumber o + 7)]
  | .daa => [0x27]
  | .cpl => [0x2F]
  | .scf => [0x37]
  | .ccf => [0x3F]
  | .jp nn => [0xC3, loByte nn, hiByte nn]
  | .jpCc cc nn => [byte (192 + 8 * condNumber cc + 2), loByte nn, hiByte nn]
  | .jpHl => [0xE9]
  | .jr e => [0x18, e]
  | .jrCc cc e => [byte (32 + 8 * condNumber cc), e]
  | .call nn => [0xCD, loByte nn, hiByte nn]
  | .callCc cc nn => [byte (192 + 8 * condNumber cc + 4), loByte nn, hiByte nn]
  | .ret => [0xC9]
  | .retCc cc => [byte (192 + 8 * condNumber cc)]
  | .reti => [0xD9]
  | .rst t => [byte (192 + 8 * t.val + 7)]
  | .halt => [0x76]
  | .stop => [0x10]
  | .di => [0xF3]
  | .ei => [0xFB]
  | .illegal op => [op]
  | .cbByte op2 => [0xCB, op2]
  | .rot o x => [0xCB, byte (8 * rotNumber o + operandNumber x)]
  | .bit b x => [0xCB, byte (64 + 8 * b.val + operandNumber x)]
  | .res b x => [0xCB, byte (128 + 8 * b.val + operandNumber x)]
  | .set b x => [0xCB, byte (192 + 8 * b.val + operandNumber x)]

theorem encode_eq_form (i : Instr) : encode i = formBytes i.form := by
  cases i <;> rfl

theorem extendedForm_bytes (op2 : Byte) : formBytes (extendedForm op2) = [0xCB, op2] := by
  revert op2; exact forall_byte (by decide +kernel)

/-- The bytes of an instruction are those of its resolved form. -/
theorem encode_eq_opForm (i : Instr) : encode i = formBytes i.opForm := by
  rw [encode_eq_form]
  unfold Instr.opForm
  split
  · next op2 h => rw [h, decodeExtended_form, extendedForm_bytes]; rfl
  · rfl

/-- With `EI_DELAY` = 0 the instruction part ends with the instruction. -/
theorem instructionPart_eq (s : State) :
    instructionPart s = if s.halted then .next (haltedPart s) else executeOne s := by
  unfold instructionPart
  split
  · rfl
  · cases executeOne s <;> rfl

/-- `ROM_PAD` is what an unlisted byte reads as: the image lists the bytes of the file alone. -/
theorem romImage_eq (bytes : List Byte) (size : Nat) : romImage bytes size = Memory.ofBytes 0 bytes := rfl

end Sys2Proof.Machine
end

