-- ==== Sys2Proof/Laws/Effects.lean ====
section
/-! SUPPORT. Every shared operation as one equation over reads, writes and register updates, and what any instruction can do to
the bus side of the state, said once. -/

namespace Sys2Proof.Machine

open Sys2Proof.Spec

/-! ### Equations -/

theorem ld8_eq (dst src : Operand8) (s : State) :
    ld8 dst src s = writeOperand dst (readOperand src s).1 (readOperand src s).2 := rfl

theorem ld8n_eq (dst : Operand8) (n : Byte) (s : State) : ld8n dst n s = writeOperand dst n s := rfl

theorem loadA_eq (m : AddrMode) (s : State) :
    loadA m s = .next (stepHL m ((memRead (addressOf m s) s).2.setReg .a (memRead (addressOf m s) s).1)) := rfl

theorem storeA_eq (m : AddrMode) (s : State) :
    storeA m s = andThen (memWrite (addressOf m s) s.a s) fun t => .next (stepHL m t) := rfl

theorem ldHlSpE_eq (e : Byte) (s : State) :
    ldHlSpE e s = .next ((s.setF (addSpE s.sp e).2).setHL (addSpE s.sp e).1) := rfl

theorem addSp_eq (e : Byte) (s : State) :
    addSp e s = .next ((s.setF (addSpE s.sp e).2).setSP (addSpE s.sp e).1) := rfl

theorem pushPair_eq (q : StackPair) (s : State) :
    pushPair q s = andThen (push16 (s.stackPair q) s) fun t => .next (extraQuantum t) := rfl

theorem popPair_eq (q : StackPair) (s : State) :
    popPair q s = .next (extraQuantum ((pop16 s).2.setStackPair q (pop16 s).1)) := rfl

theorem aluOperand_eq (o : AluOp) (src : Operand8) (s : State) :
    aluOperand o src s = .next (accumulate o (readOperand src s).1 (readOperand src s).2) := rfl

theorem inc8Operand_eq (x : Operand8) (s : State) :
    inc8Operand x s =
      andThen (writeOperand x (inc8 (readOperand x s).1 (readOperand x s).2.flagC).1 (readOperand x s).2) fun t =>
        .next (t.setF (inc8 (readOperand x s).1 (readOperand x s).2.flagC).2) := rfl

theorem dec8Operand_eq (x : Operand8) (s : State) :
    dec8Operand x s =
      andThen (writeOperand x (dec8 (readOperand x s).1 (readOperand x s).2.flagC).1 (readOperand x s).2) fun t =>
        .next (t.setF (dec8 (readOperand x s).1 (readOperand x s).2.flagC).2) := rfl

theorem rotateOperand_eq (o : RotOp) (x : Operand8) (s : State) :
    rotateOperand o x s =
      andThen (writeOperand x (rotateFlags o (readOperand x s).1 (readOperand x s).2.flagC).1 (readOperand x s).2) fun t =>
        .next (t.setF (rotateFlags o (readOperand x s).1 (readOperand x s).2.flagC).2) := rfl

theorem testBit_eq (b : Fin 8) (x : Operand8) (s : State) :
    testBit b x s =
      .next ((readOperand x s).2.setF (bitFlags b.val (readOperand x s).1 (readOperand x s).2.flagC)) := rfl

theorem resetBit_eq (b : Fin 8) (x : Operand8) (s : State) :
    resetBit b x s = writeOperand x ((readOperand x s).1 &&& ~~~(bitMask b.val)) (readOperand x s).2 := rfl

theorem setBit_eq (b : Fin 8) (x : Operand8) (s : State) :
    setBit b x s = writeOperand x ((readOperand x s).1 ||| bitMask b.val) (readOperand x s).2 := rfl

theorem addHl_eq (p : Pair) (s : State) :
    addHl p s = .next ((s.setF (add16 s.hl (s.pair p) s.flagZ).2).setHL (add16 s.hl (s.pair p) s.flagZ).1) := rfl

theorem rotateA_eq (o : RotOp) (s : State) :
    rotateA o s = .next ((s.setF (rotateShort o s.a s.flagC).2).setReg .a (rotateShort o s.a s.flagC).1) := rfl

theorem adjustA_eq (s : State) :
    adjustA s =
      .next ((s.setF (daa s.a s.flagN s.flagH s.flagC).2).setReg .a (daa s.a s.flagN s.flagH s.flagC).1) := rfl

theorem jumpTo_eq (nn : Word) (s : State) : jumpTo nn s = .next (extraQuantum (s.setPC nn)) := rfl

theorem callTo_eq (nn : Word) (s : State) :
    callTo nn s = andThen (push16 s.pc s) fun t => .next (extraQuantum (t.setPC nn)) := rfl

theorem restart_eq (t : Fin 8) (s : State) : restart t s = callTo (BitVec.ofNat 16 (8 * t.val)) s := rfl

theorem returnTo_eq (s : State) : returnTo s = .next (extraQuantum ((pop16 s).2.setPC (pop16 s).1)) := rfl

theorem returnInterrupt_eq (s : State) :
    returnInterrupt s = .next (extraQuantum { (pop16 s).2 with pc := (pop16 s).1, ime := true }) := rfl

theorem push16_eq (v : Word) (s : State) :
    push16 v s = andThen (memWrite (s.sp - 2) (loByte v) (s.setSP (s.sp - 2))) fun t =>
      memWrite (s.sp - 2 + 1) (hiByte v) t := rfl

/-! ### The bus side -/

/-- Nothing behind the bus differs: memories, IF, IE, the bank controller, the number of router updates. -/
structure SameBus (s t : State) : Prop where
  iflag : t.iflag = s.iflag
  ienable : t.ienable = s.ienable
  wram : t.wram = s.wram
  hram : t.hram = s.hram
  rom : t.rom = s.rom
  romBanks : t.romBanks = s.romBanks
  cartRam : t.cartRam = s.cartRam
  ramSize : t.ramSize = s.ramSize
  ramEnable : t.ramEnable = s.ramEnable
  bankLo : t.bankLo = s.bankLo
  bankHi : t.bankHi = s.bankHi
  bankMode : t.bankMode = s.bankMode
  updates : t.updates = s.updates
  cycles : t.cycles = s.cycles

theorem SameBus.refl (s : State) : SameBus s s := ⟨rfl, rfl, rfl, rfl, rfl, rfl, rfl, rfl, rfl, rfl, rfl, rfl, rfl, rfl⟩

theorem SameBus.trans {s t u : State} (h : SameBus s t) (k : SameBus t u) : SameBus s u :=
  ⟨k.1.trans h.1, k.2.trans h.2, k.3.trans h.3, k.4.trans h.4, k.5.trans h.5, k.6.trans h.6, k.7.trans h.7,
    k.8.trans h.8, k.9.trans h.9, k.10.trans h.10, k.11.trans h.11, k.12.trans h.12, k.13.trans h.13, k.14.trans h.14⟩

theorem SameBus.symm {s t : State} (h : SameBus s t) : SameBus t s :=
  ⟨h.1.symm, h.2.symm, h.3.symm, h.4.symm, h.5.symm, h.6.symm, h.7.symm, h.8.symm, h.9.symm, h.10.symm, h.11.symm,
    h.12.symm, h.13.symm, h.14.symm⟩

theorem sameBus_addTick (q : Byte) (s : State) : SameBus s (addTick q s) := ⟨rfl, rfl, rfl, rfl, rfl, rfl, rfl, rfl, rfl, rfl, rfl, rfl, rfl, rfl⟩

theorem sameBus_setF (v : Byte) (s : State) : SameBus s (s.setF v) := ⟨rfl, rfl, rfl, rfl, rfl, rfl, rfl, rfl, rfl, rfl, rfl, rfl, rfl, rfl⟩

theorem sameBus_setSP (v : Word) (s : State) : SameBus s (s.setSP v) := ⟨rfl, rfl, rfl, rfl, rfl, rfl, rfl, rfl, rfl, rfl, rfl, rfl, rfl, rfl⟩

theorem sameBus_setReg (r : Reg8) (v : Byte) (s : State) : SameBus s (s.setReg r v) := by
  cases r <;> exact ⟨rfl, rfl, rfl, rfl, rfl, rfl, rfl, rfl, rfl, rfl, rfl, rfl, rfl, rfl⟩

theorem sameBus_stepHL (m : AddrMode) (s : State) : SameBus s (stepHL m s) := by
  cases m <;> exact ⟨rfl, rfl, rfl, rfl, rfl, rfl, rfl, rfl, rfl, rfl, rfl, rfl, rfl, rfl⟩

theorem sameBus_routerRead (a : Word) (s : State) : SameBus s (routerRead a s).2 := by
  obtain ⟨n, ev, h⟩ := routerRead_snd a s
  rw [h]
  exact ⟨rfl, rfl, rfl, rfl, rfl, rfl, rfl, rfl, rfl, rfl, rfl, rfl, rfl, rfl⟩

theorem sameBus_memRead (a : Word) (s : State) : SameBus s (memRead a s).2 :=
  (sameBus_addTick _ _).trans (sameBus_routerRead _ _)

theorem sameBus_readOperand (x : Operand8) (s : State) : SameBus s (readOperand x s).2 := by
  cases x
  · exact SameBus.refl s
  · exact sameBus_memRead _ _

theorem sameBus_pop16 (s : State) : SameBus s (pop16 s).2 :=
  ((sameBus_memRead _ _).trans (sameBus_memRead _ _)).trans (sameBus_setSP _ _)

theorem sameBus_accumulate (o : AluOp) (v : Byte) (s : State) : SameBus s (accumulate o v s) := by
  cases o <;> exact ⟨rfl, rfl, rfl, rfl, rfl, rfl, rfl, rfl, rfl, rfl, rfl, rfl, rfl, rfl⟩

theorem sameBus_setPair (p : Pair) (v : Word) (s : State) : SameBus s (s.setPair p v) := by
  cases p <;> exact ⟨rfl, rfl, rfl, rfl, rfl, rfl, rfl, rfl, rfl, rfl, rfl, rfl, rfl, rfl⟩

theorem sameBus_setStackPair (q : StackPair) (v : Word) (s : State) : SameBus s (s.setStackPair q v) := by
  cases q <;> exact ⟨rfl, rfl, rfl, rfl, rfl, rfl, rfl, rfl, rfl, rfl, rfl, rfl, rfl, rfl⟩

/-- A run whose only bus writes are router writes to the listed addresses, in this order. -/
inductive WritesTo : List Word → State → Result → Prop where
  | none {s t : State} (h : SameBus s t) : WritesTo [] s (.next t)
  | step {s u m : State} {addr : Word} {v : Byte} {rest : List Word} {r : Result} (h : SameBus s u)
      (hw : routerWrite addr v u = .next m) (k : WritesTo rest m r) : WritesTo (addr :: rest) s r
  | stop {s u : State} {addr : Word} {v : Byte} {rest : List Word} {x : Fault} (h : SameBus s u)
      (hw : routerWrite addr v u = .fault x) : WritesTo (addr :: rest) s (.fault x)

theorem WritesTo.pre {l : List Word} {s u : State} {r : Result} (h : SameBus s u) (k : WritesTo l u r) : WritesTo l s r := by
  cases k with
  | none h' => exact .none (h.trans h')
  | step h' hw k => exact .step (h.trans h') hw k
  | stop h' hw => exact .stop (h.trans h') hw

theorem WritesTo.andThen {l : List Word} {s : State} {r : Result} {k : State → Result} (h : WritesTo l s r)
    (hk : ∀ u, WritesTo [] u (k u)) : WritesTo l s (andThen r k) := by
  induction h with
  | none h => exact (hk _).pre h
  | step h hw _ ih => exact .step h hw ih
  | stop h hw => exact .stop h hw

theorem writesTo_next {s t : State} (h : SameBus s t) : WritesTo [] s (.next t) := .none h

theorem writesTo_memWrite (addr : Word) (v : Byte) (s : State) : WritesTo [addr] s (memWrite addr v s) := by
  have hb := sameBus_addTick Config.cycleQuantum s
  unfold memWrite
  cases hw : routerWrite addr v (addTick Config.cycleQuantum s) with
  | next t => exact .step hb hw (.none (SameBus.refl t))
  | fault x => exact .stop hb hw
  | refused q => exact absurd hw routerWrite_ne_refused

theorem writesTo_memWrite_then {addr : Word} {v : Byte} {s : State} {l : List Word} {k : State → Result}
    (hk : ∀ u, WritesTo l u (k u)) : WritesTo (addr :: l) s (Machine.andThen (memWrite addr v s) k) := by
  have hb := sameBus_addTick Config.cycleQuantum s
  unfold memWrite
  cases hw : routerWrite addr v (addTick Config.cycleQuantum s) with
  | next t => exact .step hb hw (hk t)
  | fault x => exact .stop hb hw
  | refused q => exact absurd hw routerWrite_ne_refused

theorem writesTo_memWrite16 (addr v : Word) (s : State) : WritesTo [addr, addr + 1] s (memWrite16 addr v s) :=
  writesTo_memWrite_then fun u => writesTo_memWrite _ _ u

theorem sp_sub_two_add_one (w : Word) : w - 2 + 1 = w - 1 := by
  rw [BitVec.sub_eq_add_neg, BitVec.sub_eq_add_neg, BitVec.add_assoc]
  rfl

theorem writesTo_push16 (v : Word) (s : State) : WritesTo [s.sp - 2, s.sp - 1] s (push16 v s) := by
  rw [push16_eq, sp_sub_two_add_one]
  exact WritesTo.pre (sameBus_setSP _ _) (writesTo_memWrite_then fun u => writesTo_memWrite _ _ u)

theorem writesTo_self (s : State) : WritesTo [] s (.next s) := .none (SameBus.refl s)

theorem writesTo_setF (v : Byte) (s : State) : WritesTo [] s (.next (s.setF v)) := .none (sameBus_setF v s)

theorem writesTo_quantum (s : State) : WritesTo [] s (.next (extraQuantum s)) := .none (sameBus_addTick _ s)

theorem writesTo_jumpTo (nn : Word) (s : State) : WritesTo [] s (jumpTo nn s) :=
  writesTo_next ⟨rfl, rfl, rfl, rfl, rfl, rfl, rfl, rfl, rfl, rfl, rfl, rfl, rfl, rfl⟩

/-- The addresses a write of an operand stores to. -/
def operandStore (x : Operand8) (s : State) : List Word :=
  match x with
  | .atHl => [joinBytes s.h s.l]
  | .reg _ => []

theorem readOperand_hl (x : Operand8) (s : State) : (readOperand x s).2.hl = joinBytes s.h s.l := by
  cases x <;> simp [readOperand, State.hl]

theorem writesTo_writeOperand (x : Operand8) (v : Byte) (s : State) :
    WritesTo (operandStore x s) s (writeOperand x v s) := by
  cases x
  · exact writesTo_next (sameBus_setReg _ _ _)
  · exact writesTo_memWrite _ _ _

theorem writesTo_modify (x : Operand8) (v : Byte) (y : Operand8) (s : State) :
    WritesTo (operandStore x s) s (writeOperand x v (readOperand y s).2) := by
  have h := writesTo_writeOperand x v (readOperand y s).2
  have e : operandStore x (readOperand y s).2 = operandStore x s := by
    cases x
    · rfl
    · exact congrArg (fun a => [a]) (readOperand_hl y s)
  rw [e] at h
  exact h.pre (sameBus_readOperand y s)

theorem writesTo_pushPair (q : StackPair) (s : State) : WritesTo [s.sp - 2, s.sp - 1] s (pushPair q s) := by
  rw [pushPair_eq]
  exact (writesTo_push16 _ s).andThen writesTo_quantum

theorem writesTo_callTo (nn : Word) (s : State) : WritesTo [s.sp - 2, s.sp - 1] s (callTo nn s) := by
  rw [callTo_eq]
  exact (writesTo_push16 _ s).andThen (writesTo_jumpTo nn)

theorem writesTo_returnTo (s : State) : WritesTo [] s (returnTo s) := by
  rw [returnTo_eq]
  exact (writesTo_jumpTo _ _).pre (sameBus_pop16 s)

theorem writesTo_returnInterrupt (s : State) : WritesTo [] s (returnInterrupt s) := by
  rw [returnInterrupt_eq]
  have h : ∀ (u : State) (v : Word), WritesTo [] u (.next (extraQuantum { u with pc := v, ime := true })) := fun u v =>
    writesTo_next ⟨rfl, rfl, rfl, rfl, rfl, rfl, rfl, rfl, rfl, rfl, rfl, rfl, rfl, rfl⟩
  exact (h _ _).pre (sameBus_pop16 s)

theorem storedTo_ld8 (x y : Operand8) (s : State) : storedTo (.ld8 x y) s = operandStore x s := by cases x <;> rfl
theorem storedTo_ld8n (x : Operand8) (n : Byte) (s : State) : storedTo (.ld8n x n) s = operandStore x s := by cases x <;> rfl
theorem storedTo_inc8 (x : Operand8) (s : State) : storedTo (.inc8 x) s = operandStore x s := by cases x <;> rfl
theorem storedTo_dec8 (x : Operand8) (s : State) : storedTo (.dec8 x) s = operandStore x s := by cases x <;> rfl
theorem storedTo_rot (o : RotOp) (x : Operand8) (s : State) : storedTo (.rot o x) s = operandStore x s := by cases x <;> rfl
theorem storedTo_res (b : Fin 8) (x : Operand8) (s : State) : storedTo (.res b x) s = operandStore x s := by cases x <;> rfl
theorem storedTo_set (b : Fin 8) (x : Operand8) (s : State) : storedTo (.set b x) s = operandStore x s := by cases x <;> rfl

/-- What a form can do to the bus side: router writes to exactly the addresses it stores to (Spec.storedTo). -/
theorem execForm_writesTo (F : Form) (s : State) (hne : ∀ op2, F ≠ .cbByte op2) :
    WritesTo (storedTo F s) s (execForm F s) := by
  cases F with
  | cbByte op2 => exact absurd rfl (hne op2)
  | ld8 x y => rw [storedTo_ld8]; exact writesTo_modify x _ y s
  | ld8n x n => rw [storedTo_ld8n]; exact writesTo_writeOperand x n s
  | loadA m => exact writesTo_next (((sameBus_memRead _ _).trans (sameBus_setReg _ _ _)).trans (sameBus_stepHL m _))
  | storeA m => exact writesTo_memWrite_then fun u => writesTo_next (sameBus_stepHL m u)
  | storeSp nn => exact writesTo_memWrite16 nn s.sp s
  | push q => exact writesTo_pushPair q s
  | pop q => exact writesTo_next (((sameBus_pop16 s).trans (sameBus_setStackPair q _ _)).trans (sameBus_addTick _ _))
  | alu o y => exact writesTo_next ((sameBus_readOperand y s).trans (sameBus_accumulate o _ _))
  | aluN o n => exact writesTo_next (sameBus_accumulate o n s)
  | inc8 x => rw [storedTo_inc8]; exact (writesTo_modify x _ x s).andThen (writesTo_setF _)
  | dec8 x => rw [storedTo_dec8]; exact (writesTo_modify x _ x s).andThen (writesTo_setF _)
  | rot o x => rw [storedTo_rot]; exact (writesTo_modify x _ x s).andThen (writesTo_setF _)
  | res b x => rw [storedTo_res]; exact writesTo_modify x _ x s
  | set b x => rw [storedTo_set]; exact writesTo_modify x _ x s
  | bit b x => exact writesTo_next ((sameBus_readOperand x s).trans (sameBus_setF _ _))
  | ld16 p nn => exact writesTo_next (sameBus_setPair p nn s)
  | inc16 p => exact writesTo_next (sameBus_setPair p _ s)
  | dec16 p => exact writesTo_next (sameBus_setPair p _ s)
  | call nn => exact writesTo_callTo nn s
  | rst t => exact writesTo_callTo _ s
  | callCc cc nn =>
    show WritesTo (if s.cond cc then _ else _) s (if s.cond cc then callTo nn s else .next s)
    cases s.cond cc
    · exact writesTo_self s
    · exact writesTo_callTo nn s
  | ret => exact writesTo_returnTo s
  | reti => exact writesTo_returnInterrupt s
  | retCc cc =>
    show WritesTo [] s (if s.cond cc then returnTo s else .next s)
    cases s.cond cc
    · exact writesTo_self s
    · exact writesTo_returnTo s
  | jpCc cc nn =>
    show WritesTo [] s (if s.cond cc then jumpTo nn s else .next s)
    cases s.cond cc
    · exact writesTo_self s
    · exact writesTo_jumpTo nn s
  | jrCc cc e =>
    show WritesTo [] s (if s.cond cc then jumpTo _ s else .next s)
    cases s.cond cc
    · exact writesTo_self s
    · exact writesTo_jumpTo _ s
  | _ => exact writesTo_next ⟨rfl, rfl, rfl, rfl, rfl, rfl, rfl, rfl, rfl, rfl, rfl, rfl, rfl, rfl⟩

/-- What any instruction can do to the bus side: router writes to exactly the addresses its form stores to. -/
theorem exec_writesTo (i : Instr) (s : State) : WritesTo (storedTo i.opForm s) s (exec i s) := by
  rw [exec_eq_opForm]
  exact execForm_writesTo _ s (opForm_ne_cbByte i)

/-! ### Cells, the interrupt entry -/

/-- The same bus side shows the same byte at every address. -/
theorem sameBus_busByte {s t : State} (h : SameBus s t) (a : Word) : t.busByte a = s.busByte a := by
  unfold State.busByte cellOf extRamOpen extRamIndex romHighIndex effectiveRomBank effectiveRamBank
  simp only [h.romBanks, h.ramSize, h.ramEnable, h.bankLo, h.bankHi, h.bankMode, h.cartRam]
  cases regionOf a <;> simp only [Option.map_some, State.cell, h.iflag, h.ienable, h.wram, h.hram, h.rom]

theorem sameBus_cell {s t : State} (h : SameBus s t) (c : Cell) : t.cell c = s.cell c := by
  cases c <;> simp only [State.cell, h.iflag, h.ienable, h.wram, h.hram, h.rom, h.cartRam]

theorem sameBus_cellOf {s t : State} (h : SameBus s t) (a : Word) : cellOf t a = cellOf s a := by
  unfold cellOf extRamOpen extRamIndex romHighIndex effectiveRomBank effectiveRamBank
  simp only [h.romBanks, h.ramSize, h.ramEnable, h.bankLo, h.bankHi, h.bankMode]

/-- A router write changes no cell but the one its address reaches. -/
theorem routerWrite_cell {a v s t c} (h : routerWrite a v s = .next t) (hc : writtenCell s a ≠ some c) : t.cell c = s.cell c := by
  unfold routerWrite at h
  unfold writtenCell cellOf at hc
  cases hr : regionOf a <;> simp only [hr] at h hc
  case dmaTrigger =>
    split at h
    · obtain ⟨n, ev, hd⟩ := dmaCopy_eq v s
      rw [hd] at h; injection h with h; subst h; cases c <;> rfl
    · cases h
  case romLow => injection h with h; subst h; unfold controllerWrite; (repeat' split) <;> cases c <;> rfl
  case romHigh => injection h with h; subst h; unfold controllerWrite; (repeat' split) <;> cases c <;> rfl
  case extRam =>
    injection h with h; subst h
    cases ho : extRamOpen s
    · simp
    · simp only [ho, if_true] at hc ⊢
      cases c <;> try rfl
      apply Memory.read_write_ne; intro he; apply hc; rw [he]
  case wram => injection h with h; subst h; cases c <;> try rfl
               apply Memory.read_write_ne; intro he; apply hc; rw [he]
  case echo => injection h with h; subst h; cases c <;> try rfl
               apply Memory.read_write_ne; intro he; apply hc; rw [he]
  case hram => injection h with h; subst h; cases c <;> try rfl
               apply Memory.read_write_ne; intro he; apply hc; rw [he]
  case ifReg => injection h with h; subst h; cases c <;> try rfl
                simp at hc
  case ieReg => injection h with h; subst h; cases c <;> try rfl
                simp at hc
  case unmapped => injection h with h; subst h; rfl
  case device d => injection h with h; subst h; cases c <;> rfl

/-- A router write at or above 0x8000 leaves the bank controller alone. -/
theorem routerWrite_banks {a v s t} (h : routerWrite a v s = .next t) (ha : 0x8000 ≤ a.toNat) : sameBanks s t ∧ t.rom = s.rom ∧ t.romBanks = s.romBanks ∧ t.ramSize = s.ramSize := by
  unfold routerWrite at h
  cases hr : regionOf a <;> simp only [hr] at h
  case romLow => have := regionRange_of_eq hr; simp [regionRange] at this; omega
  case romHigh => have := regionRange_of_eq hr; simp [regionRange] at this; omega
  case dmaTrigger =>
    split at h
    · obtain ⟨n, ev, hd⟩ := dmaCopy_eq v s
      rw [hd] at h; injection h with h; subst h; exact ⟨⟨rfl, rfl, rfl, rfl⟩, rfl, rfl, rfl⟩
    · cases h
  case extRam => injection h with h; subst h; split <;> exact ⟨⟨rfl, rfl, rfl, rfl⟩, rfl, rfl, rfl⟩
  all_goals injection h with h; subst h; exact ⟨⟨rfl, rfl, rfl, rfl⟩, rfl, rfl, rfl⟩

theorem finishStep_eq (s : State) : finishStep s = interruptPart (deviceDone s) := rfl

/-- What the interrupt entry leaves, where it ends in a next state. -/
theorem dispatch_frame {k s w} (h : dispatchInterrupt k s = .next w) :
    w.halted = false ∧ w.ime = false ∧ w.eiPending = s.eiPending ∧ w.sp = s.sp - 2 ∧ w.pc = vector k ∧ w.tick = s.tick ∧ w.cycles = s.cycles ∧ w.f = s.f ∧ w.rom = s.rom ∧ w.romBanks = s.romBanks ∧ w.ramSize = s.ramSize := by
  obtain ⟨m, h1, h2⟩ := andThen_eq_next.mp h
  obtain ⟨n, h4, h3⟩ := andThen_eq_next.mp h2
  injection h3 with h3; subst h3
  obtain ⟨f1, t1⟩ := routerWrite_frame h1
  obtain ⟨f2, t2⟩ := routerWrite_frame h4
  have := f1.trans f2
  exact ⟨this.halted, this.ime, this.eiPending, this.sp, rfl, t2.trans t1, this.cycles, this.f, this.rom, this.romBanks, this.ramSize⟩

/-- The device and interrupt parts: the router update alone, or one dispatch after it. -/
theorem finishStep_cases {s t} (h : finishStep s = .next t) :
   (t = deviceDone s) ∨ ((deviceDone s).ime = true ∧ ∃ k : Fin 5, pendingSource (deviceDone s) = some k ∧ ∃ w, dispatchInterrupt k (deviceDone s) = .next w ∧ t = routerUpdate 20 { w with cycles := w.cycles + 20 }) := by
  rw [finishStep_eq] at h; unfold interruptPart at h
  split at h
  · rename_i hi
    split at h
    · rename_i k hk
      obtain ⟨w, h1, h2⟩ := andThen_eq_next.mp h
      injection h2 with h2
      exact .inr ⟨hi, k, hk, w, h1, h2.symm⟩
    · injection h with h; exact .inl h.symm
  · rw [if_neg (by simp [Config.haltWakeWithoutIme])] at h
    injection h with h; exact .inl h.symm

end Sys2Proof.Machine
end

