-- ==== Sys2Proof/Laws/PerInstr.lean ====
section
/-! SUPPORT. Facts about the instruction as syntax, one lemma per constructor. -/

namespace Sys2Proof.Laws

/-- The encoding has the length R149 gives for its first byte. -/
def Length.Statement (i : Instr) : Prop := (encode i).length = opcodeLength ((encode i).headD 0)

end Sys2Proof.Laws

theorem Sys2Proof.Laws.Length.nop : Sys2Proof.Laws.Length.Statement .nop := rfl
theorem Sys2Proof.Laws.Length.ldBcNn (nn : Sys2Proof.Word) : Sys2Proof.Laws.Length.Statement (.ldBcNn nn) := rfl
theorem Sys2Proof.Laws.Length.ldIndBcA : Sys2Proof.Laws.Length.Statement .ldIndBcA := rfl
theorem Sys2Proof.Laws.Length.incBc : Sys2Proof.Laws.Length.Statement .incBc := rfl
theorem Sys2Proof.Laws.Length.incB : Sys2Proof.Laws.Length.Statement .incB := rfl
theorem Sys2Proof.Laws.Length.decB : Sys2Proof.Laws.Length.Statement .decB := rfl
theorem Sys2Proof.Laws.Length.ldBN (n : Sys2Proof.Byte) : Sys2Proof.Laws.Length.Statement (.ldBN n) := rfl
theorem Sys2Proof.Laws.Length.rlca : Sys2Proof.Laws.Length.Statement .rlca := rfl
theorem Sys2Proof.Laws.Length.ldIndNnSp (nn : Sys2Proof.Word) : Sys2Proof.Laws.Length.Statement (.ldIndNnSp nn) := rfl
theorem Sys2Proof.Laws.Length.addHlBc : Sys2Proof.Laws.Length.Statement .addHlBc := rfl
theorem Sys2Proof.Laws.Length.ldAIndBc : Sys2Proof.Laws.Length.Statement .ldAIndBc := rfl
theorem Sys2Proof.Laws.Length.decBc : Sys2Proof.Laws.Length.Statement .decBc := rfl
theorem Sys2Proof.Laws.Length.incC : Sys2Proof.Laws.Length.Statement .incC := rfl
theorem Sys2Proof.Laws.Length.decC : Sys2Proof.Laws.Length.Statement .decC := rfl
theorem Sys2Proof.Laws.Length.ldCN (n : Sys2Proof.Byte) : Sys2Proof.Laws.Length.Statement (.ldCN n) := rfl
theorem Sys2Proof.Laws.Length.rrca : Sys2Proof.Laws.Length.Statement .rrca := rfl
theorem Sys2Proof.Laws.Length.stop : Sys2Proof.Laws.Length.Statement .stop := rfl
theorem Sys2Proof.Laws.Length.ldDeNn (nn : Sys2Proof.Word) : Sys2Proof.Laws.Length.Statement (.ldDeNn nn) := rfl
theorem Sys2Proof.Laws.Length.ldIndDeA : Sys2Proof.Laws.Length.Statement .ldIndDeA := rfl
theorem Sys2Proof.Laws.Length.incDe : Sys2Proof.Laws.Length.Statement .incDe := rfl
theorem Sys2Proof.Laws.Length.incD : Sys2Proof.Laws.Length.Statement .incD := rfl
theorem Sys2Proof.Laws.Length.decD : Sys2Proof.Laws.Length.Statement .decD := rfl
theorem Sys2Proof.Laws.Length.ldDN (n : Sys2Proof.Byte) : Sys2Proof.Laws.Length.Statement (.ldDN n) := rfl
theorem Sys2Proof.Laws.Length.rla : Sys2Proof.Laws.Length.Statement .rla := rfl
theorem Sys2Proof.Laws.Length.jrE (e : Sys2Proof.Byte) : Sys2Proof.Laws.Length.Statement (.jrE e) := rfl
theorem Sys2Proof.Laws.Length.addHlDe : Sys2Proof.Laws.Length.Statement .addHlDe := rfl
theorem Sys2Proof.Laws.Length.ldAIndDe : Sys2Proof.Laws.Length.Statement .ldAIndDe := rfl
theorem Sys2Proof.Laws.Length.decDe : Sys2Proof.Laws.Length.Statement .decDe := rfl
theorem Sys2Proof.Laws.Length.incE : Sys2Proof.Laws.Length.Statement .incE := rfl
theorem Sys2Proof.Laws.Length.decE : Sys2Proof.Laws.Length.Statement .decE := rfl
theorem Sys2Proof.Laws.Length.ldEN (n : Sys2Proof.Byte) : Sys2Proof.Laws.Length.Statement (.ldEN n) := rfl
theorem Sys2Proof.Laws.Length.rra : Sys2Proof.Laws.Length.Statement .rra := rfl
theorem Sys2Proof.Laws.Length.jrNzE (e : Sys2Proof.Byte) : Sys2Proof.Laws.Length.Statement (.jrNzE e) := rfl
theorem Sys2Proof.Laws.Length.ldHlNn (nn : Sys2Proof.Word) : Sys2Proof.Laws.Length.Statement (.ldHlNn nn) := rfl
theorem Sys2Proof.Laws.Length.ldIndHliA : Sys2Proof.Laws.Length.Statement .ldIndHliA := rfl
theorem Sys2Proof.Laws.Length.incHl : Sys2Proof.Laws.Length.Statement .incHl := rfl
theorem Sys2Proof.Laws.Length.incH : Sys2Proof.Laws.Length.Statement .incH := rfl
theorem Sys2Proof.Laws.Length.decH : Sys2Proof.Laws.Length.Statement .decH := rfl
theorem Sys2Proof.Laws.Length.ldHN (n : Sys2Proof.Byte) : Sys2Proof.Laws.Length.Statement (.ldHN n) := rfl
theorem Sys2Proof.Laws.Length.daa : Sys2Proof.Laws.Length.Statement .daa := rfl
theorem Sys2Proof.Laws.Length.jrZE (e : Sys2Proof.Byte) : Sys2Proof.Laws.Length.Statement (.jrZE e) := rfl
theorem Sys2Proof.Laws.Length.addHlHl : Sys2Proof.Laws.Length.Statement .addHlHl := rfl
theorem Sys2Proof.Laws.Length.ldAIndHli : Sys2Proof.Laws.Length.Statement .ldAIndHli := rfl
theorem Sys2Proof.Laws.Length.decHl : Sys2Proof.Laws.Length.Statement .decHl := rfl
theorem Sys2Proof.Laws.Length.incL : Sys2Proof.Laws.Length.Statement .incL := rfl
theorem Sys2Proof.Laws.Length.decL : Sys2Proof.Laws.Length.Statement .decL := rfl
theorem Sys2Proof.Laws.Length.ldLN (n : Sys2Proof.Byte) : Sys2Proof.Laws.Length.Statement (.ldLN n) := rfl
theorem Sys2Proof.Laws.Length.cpl : Sys2Proof.Laws.Length.Statement .cpl := rfl
theorem Sys2Proof.Laws.Length.jrNcE (e : Sys2Proof.Byte) : Sys2Proof.Laws.Length.Statement (.jrNcE e) := rfl
theorem Sys2Proof.Laws.Length.ldSpNn (nn : Sys2Proof.Word) : Sys2Proof.Laws.Length.Statement (.ldSpNn nn) := rfl
theorem Sys2Proof.Laws.Length.ldIndHldA : Sys2Proof.Laws.Length.Statement .ldIndHldA := rfl
theorem Sys2Proof.Laws.Length.incSp : Sys2Proof.Laws.Length.Statement .incSp := rfl
theorem Sys2Proof.Laws.Length.incIndHl : Sys2Proof.Laws.Length.Statement .incIndHl := rfl
theorem Sys2Proof.Laws.Length.decIndHl : Sys2Proof.Laws.Length.Statement .decIndHl := rfl
theorem Sys2Proof.Laws.Length.ldIndHlN (n : Sys2Proof.Byte) : Sys2Proof.Laws.Length.Statement (.ldIndHlN n) := rfl
theorem Sys2Proof.Laws.Length.scf : Sys2Proof.Laws.Length.Statement .scf := rfl
theorem Sys2Proof.Laws.Length.jrCE (e : Sys2Proof.Byte) : Sys2Proof.Laws.Length.Statement (.jrCE e) := rfl
theorem Sys2Proof.Laws.Length.addHlSp : Sys2Proof.Laws.Length.Statement .addHlSp := rfl
theorem Sys2Proof.Laws.Length.ldAIndHld : Sys2Proof.Laws.Length.Statement .ldAIndHld := rfl
theorem Sys2Proof.Laws.Length.decSp : Sys2Proof.Laws.Length.Statement .decSp := rfl
theorem Sys2Proof.Laws.Length.incA : Sys2Proof.Laws.Length.Statement .incA := rfl
theorem Sys2Proof.Laws.Length.decA : Sys2Proof.Laws.Length.Statement .decA := rfl
theorem Sys2Proof.Laws.Length.ldAN (n : Sys2Proof.Byte) : Sys2Proof.Laws.Length.Statement (.ldAN n) := rfl
theorem Sys2Proof.Laws.Length.ccf : Sys2Proof.Laws.Length.Statement .ccf := rfl
theorem Sys2Proof.Laws.Length.ldBB : Sys2Proof.Laws.Length.Statement .ldBB := rfl
theorem Sys2Proof.Laws.Length.ldBC : Sys2Proof.Laws.Length.Statement .ldBC := rfl
theorem Sys2Proof.Laws.Length.ldBD : Sys2Proof.Laws.Length.Statement .ldBD := rfl
theorem Sys2Proof.Laws.Length.ldBE : Sys2Proof.Laws.Length.Statement .ldBE := rfl
theorem Sys2Proof.Laws.Length.ldBH : Sys2Proof.Laws.Length.Statement .ldBH := rfl
theorem Sys2Proof.Laws.Length.ldBL : Sys2Proof.Laws.Length.Statement .ldBL := rfl
theorem Sys2Proof.Laws.Length.ldBIndHl : Sys2Proof.Laws.Length.Statement .ldBIndHl := rfl
theorem Sys2Proof.Laws.Length.ldBA : Sys2Proof.Laws.Length.Statement .ldBA := rfl
theorem Sys2Proof.Laws.Length.ldCB : Sys2Proof.Laws.Length.Statement .ldCB := rfl
theorem Sys2Proof.Laws.Length.ldCC : Sys2Proof.Laws.Length.Statement .ldCC := rfl
theorem Sys2Proof.Laws.Length.ldCD : Sys2Proof.Laws.Length.Statement .ldCD := rfl
theorem Sys2Proof.Laws.Length.ldCE : Sys2Proof.Laws.Length.Statement .ldCE := rfl
theorem Sys2Proof.Laws.Length.ldCH : Sys2Proof.Laws.Length.Statement .ldCH := rfl
theorem Sys2Proof.Laws.Length.ldCL : Sys2Proof.Laws.Length.Statement .ldCL := rfl
theorem Sys2Proof.Laws.Length.ldCIndHl : Sys2Proof.Laws.Length.Statement .ldCIndHl := rfl
theorem Sys2Proof.Laws.Length.ldCA : Sys2Proof.Laws.Length.Statement .ldCA := rfl
theorem Sys2Proof.Laws.Length.ldDB : Sys2Proof.Laws.Length.Statement .ldDB := rfl
theorem Sys2Proof.Laws.Length.ldDC : Sys2Proof.Laws.Length.Statement .ldDC := rfl
theorem Sys2Proof.Laws.Length.ldDD : Sys2Proof.Laws.Length.Statement .ldDD := rfl
theorem Sys2Proof.Laws.Length.ldDE : Sys2Proof.Laws.Length.Statement .ldDE := rfl
theorem Sys2Proof.Laws.Length.ldDH : Sys2Proof.Laws.Length.Statement .ldDH := rfl
theorem Sys2Proof.Laws.Length.ldDL : Sys2Proof.Laws.Length.Statement .ldDL := rfl
theorem Sys2Proof.Laws.Length.ldDIndHl : Sys2Proof.Laws.Length.Statement .ldDIndHl := rfl
theorem Sys2Proof.Laws.Length.ldDA : Sys2Proof.Laws.Length.Statement .ldDA := rfl
theorem Sys2Proof.Laws.Length.ldEB : Sys2Proof.Laws.Length.Statement .ldEB := rfl
theorem Sys2Proof.Laws.Length.ldEC : Sys2Proof.Laws.Length.Statement .ldEC := rfl
theorem Sys2Proof.Laws.Length.ldED : Sys2Proof.Laws.Length.Statement .ldED := rfl
theorem Sys2Proof.Laws.Length.ldEE : Sys2Proof.Laws.Length.Statement .ldEE := rfl
theorem Sys2Proof.Laws.Length.ldEH : Sys2Proof.Laws.Length.Statement .ldEH := rfl
theorem Sys2Proof.Laws.Length.ldEL : Sys2Proof.Laws.Length.Statement .ldEL := rfl
theorem Sys2Proof.Laws.Length.ldEIndHl : Sys2Proof.Laws.Length.Statement .ldEIndHl := rfl
theorem Sys2Proof.Laws.Length.ldEA : Sys2Proof.Laws.Length.Statement .ldEA := rfl
theorem Sys2Proof.Laws.Length.ldHB : Sys2Proof.Laws.Length.Statement .ldHB := rfl
theorem Sys2Proof.Laws.Length.ldHC : Sys2Proof.Laws.Length.Statement .ldHC := rfl
theorem Sys2Proof.Laws.Length.ldHD : Sys2Proof.Laws.Length.Statement .ldHD := rfl
theorem Sys2Proof.Laws.Length.ldHE : Sys2Proof.Laws.Length.Statement .ldHE := rfl
theorem Sys2Proof.Laws.Length.ldHH : Sys2Proof.Laws.Length.Statement .ldHH := rfl
theorem Sys2Proof.Laws.Length.ldHL : Sys2Proof.Laws.Length.Statement .ldHL := rfl
theorem Sys2Proof.Laws.Length.ldHIndHl : Sys2Proof.Laws.Length.Statement .ldHIndHl := rfl
theorem Sys2Proof.Laws.Length.ldHA : Sys2Proof.Laws.Length.Statement .ldHA := rfl
theorem Sys2Proof.Laws.Length.ldLB : Sys2Proof.Laws.Length.Statement .ldLB := rfl
theorem Sys2Proof.Laws.Length.ldLC : Sys2Proof.Laws.Length.Statement .ldLC := rfl
theorem Sys2Proof.Laws.Length.ldLD : Sys2Proof.Laws.Length.Statement .ldLD := rfl
theorem Sys2Proof.Laws.Length.ldLE : Sys2Proof.Laws.Length.Statement .ldLE := rfl
theorem Sys2Proof.Laws.Length.ldLH : Sys2Proof.Laws.Length.Statement .ldLH := rfl
theorem Sys2Proof.Laws.Length.ldLL : Sys2Proof.Laws.Length.Statement .ldLL := rfl
theorem Sys2Proof.Laws.Length.ldLIndHl : Sys2Proof.Laws.Length.Statement .ldLIndHl := rfl
theorem Sys2Proof.Laws.Length.ldLA : Sys2Proof.Laws.Length.Statement .ldLA := rfl
theorem Sys2Proof.Laws.Length.ldIndHlB : Sys2Proof.Laws.Length.Statement .ldIndHlB := rfl
theorem Sys2Proof.Laws.Length.ldIndHlC : Sys2Proof.Laws.Length.Statement .ldIndHlC := rfl
theorem Sys2Proof.Laws.Length.ldIndHlD : Sys2Proof.Laws.Length.Statement .ldIndHlD := rfl
theorem Sys2Proof.Laws.Length.ldIndHlE : Sys2Proof.Laws.Length.Statement .ldIndHlE := rfl
theorem Sys2Proof.Laws.Length.ldIndHlH : Sys2Proof.Laws.Length.Statement .ldIndHlH := rfl
theorem Sys2Proof.Laws.Length.ldIndHlL : Sys2Proof.Laws.Length.Statement .ldIndHlL := rfl
theorem Sys2Proof.Laws.Length.halt : Sys2Proof.Laws.Length.Statement .halt := rfl
theorem Sys2Proof.Laws.Length.ldIndHlA : Sys2Proof.Laws.Length.Statement .ldIndHlA := rfl
theorem Sys2Proof.Laws.Length.ldAB : Sys2Proof.Laws.Length.Statement .ldAB := rfl
theorem Sys2Proof.Laws.Length.ldAC : Sys2Proof.Laws.Length.Statement .ldAC := rfl
theorem Sys2Proof.Laws.Length.ldAD : Sys2Proof.Laws.Length.Statement .ldAD := rfl
theorem Sys2Proof.Laws.Length.ldAE : Sys2Proof.Laws.Length.Statement .ldAE := rfl
theorem Sys2Proof.Laws.Length.ldAH : Sys2Proof.Laws.Length.Statement .ldAH := rfl
theorem Sys2Proof.Laws.Length.ldAL : Sys2Proof.Laws.Length.Statement .ldAL := rfl
theorem Sys2Proof.Laws.Length.ldAIndHl : Sys2Proof.Laws.Length.Statement .ldAIndHl := rfl
theorem Sys2Proof.Laws.Length.ldAA : Sys2Proof.Laws.Length.Statement .ldAA := rfl
theorem Sys2Proof.Laws.Length.addAB : Sys2Proof.Laws.Length.Statement .addAB := rfl
theorem Sys2Proof.Laws.Length.addAC : Sys2Proof.Laws.Length.Statement .addAC := rfl
theorem Sys2Proof.Laws.Length.addAD : Sys2Proof.Laws.Length.Statement .addAD := rfl
theorem Sys2Proof.Laws.Length.addAE : Sys2Proof.Laws.Length.Statement .addAE := rfl
theorem Sys2Proof.Laws.Length.addAH : Sys2Proof.Laws.Length.Statement .addAH := rfl
theorem Sys2Proof.Laws.Length.addAL : Sys2Proof.Laws.Length.Statement .addAL := rfl
theorem Sys2Proof.Laws.Length.addAIndHl : Sys2Proof.Laws.Length.Statement .addAIndHl := rfl
theorem Sys2Proof.Laws.Length.addAA : Sys2Proof.Laws.Length.Statement .addAA := rfl
theorem Sys2Proof.Laws.Length.adcAB : Sys2Proof.Laws.Length.Statement .adcAB := rfl
theorem Sys2Proof.Laws.Length.adcAC : Sys2Proof.Laws.Length.Statement .adcAC := rfl
theorem Sys2Proof.Laws.Length.adcAD : Sys2Proof.Laws.Length.Statement .adcAD := rfl
theorem Sys2Proof.Laws.Length.adcAE : Sys2Proof.Laws.Length.Statement .adcAE := rfl
theorem Sys2Proof.Laws.Length.adcAH : Sys2Proof.Laws.Length.Statement .adcAH := rfl
theorem Sys2Proof.Laws.Length.adcAL : Sys2Proof.Laws.Length.Statement .adcAL := rfl
theorem Sys2Proof.Laws.Length.adcAIndHl : Sys2Proof.Laws.Length.Statement .adcAIndHl := rfl
theorem Sys2Proof.Laws.Length.adcAA : Sys2Proof.Laws.Length.Statement .adcAA := rfl
theorem Sys2Proof.Laws.Length.subB : Sys2Proof.Laws.Length.Statement .subB := rfl
theorem Sys2Proof.Laws.Length.subC : Sys2Proof.Laws.Length.Statement .subC := rfl
theorem Sys2Proof.Laws.Length.subD : Sys2Proof.Laws.Length.Statement .subD := rfl
theorem Sys2Proof.Laws.Length.subE : Sys2Proof.Laws.Length.Statement .subE := rfl
theorem Sys2Proof.Laws.Length.subH : Sys2Proof.Laws.Length.Statement .subH := rfl
theorem Sys2Proof.Laws.Length.subL : Sys2Proof.Laws.Length.Statement .subL := rfl
theorem Sys2Proof.Laws.Length.subIndHl : Sys2Proof.Laws.Length.Statement .subIndHl := rfl
theorem Sys2Proof.Laws.Length.subA : Sys2Proof.Laws.Length.Statement .subA := rfl
theorem Sys2Proof.Laws.Length.sbcAB : Sys2Proof.Laws.Length.Statement .sbcAB := rfl
theorem Sys2Proof.Laws.Length.sbcAC : Sys2Proof.Laws.Length.Statement .sbcAC := rfl
theorem Sys2Proof.Laws.Length.sbcAD : Sys2Proof.Laws.Length.Statement .sbcAD := rfl
theorem Sys2Proof.Laws.Length.sbcAE : Sys2Proof.Laws.Length.Statement .sbcAE := rfl
theorem Sys2Proof.Laws.Length.sbcAH : Sys2Proof.Laws.Length.Statement .sbcAH := rfl
theorem Sys2Proof.Laws.Length.sbcAL : Sys2Proof.Laws.Length.Statement .sbcAL := rfl
theorem Sys2Proof.Laws.Length.sbcAIndHl : Sys2Proof.Laws.Length.Statement .sbcAIndHl := rfl
theorem Sys2Proof.Laws.Length.sbcAA : Sys2Proof.Laws.Length.Statement .sbcAA := rfl
theorem Sys2Proof.Laws.Length.andB : Sys2Proof.Laws.Length.Statement .andB := rfl
theorem Sys2Proof.Laws.Length.andC : Sys2Proof.Laws.Length.Statement .andC := rfl
theorem Sys2Proof.Laws.Length.andD : Sys2Proof.Laws.Length.Statement .andD := rfl
theorem Sys2Proof.Laws.Length.andE : Sys2Proof.Laws.Length.Statement .andE := rfl
theorem Sys2Proof.Laws.Length.andH : Sys2Proof.Laws.Length.Statement .andH := rfl
theorem Sys2Proof.Laws.Length.andL : Sys2Proof.Laws.Length.Statement .andL := rfl
theorem Sys2Proof.Laws.Length.andIndHl : Sys2Proof.Laws.Length.Statement .andIndHl := rfl
theorem Sys2Proof.Laws.Length.andA : Sys2Proof.Laws.Length.Statement .andA := rfl
theorem Sys2Proof.Laws.Length.xorB : Sys2Proof.Laws.Length.Statement .xorB := rfl
theorem Sys2Proof.Laws.Length.xorC : Sys2Proof.Laws.Length.Statement .xorC := rfl
theorem Sys2Proof.Laws.Length.xorD : Sys2Proof.Laws.Length.Statement .xorD := rfl
theorem Sys2Proof.Laws.Length.xorE : Sys2Proof.Laws.Length.Statement .xorE := rfl
theorem Sys2Proof.Laws.Length.xorH : Sys2Proof.Laws.Length.Statement .xorH := rfl
theorem Sys2Proof.Laws.Length.xorL : Sys2Proof.Laws.Length.Statement .xorL := rfl
theorem Sys2Proof.Laws.Length.xorIndHl : Sys2Proof.Laws.Length.Statement .xorIndHl := rfl
theorem Sys2Proof.Laws.Length.xorA : Sys2Proof.Laws.Length.Statement .xorA := rfl
theorem Sys2Proof.Laws.Length.orB : Sys2Proof.Laws.Length.Statement .orB := rfl
theorem Sys2Proof.Laws.Length.orC : Sys2Proof.Laws.Length.Statement .orC := rfl
theorem Sys2Proof.Laws.Length.orD : Sys2Proof.Laws.Length.Statement .orD := rfl
theorem Sys2Proof.Laws.Length.orE : Sys2Proof.Laws.Length.Statement .orE := rfl
theorem Sys2Proof.Laws.Length.orH : Sys2Proof.Laws.Length.Statement .orH := rfl
theorem Sys2Proof.Laws.Length.orL : Sys2Proof.Laws.Length.Statement .orL := rfl
theorem Sys2Proof.Laws.Length.orIndHl : Sys2Proof.Laws.Length.Statement .orIndHl := rfl
theorem Sys2Proof.Laws.Length.orA : Sys2Proof.Laws.Length.Statement .orA := rfl
theorem Sys2Proof.Laws.Length.cpB : Sys2Proof.Laws.Length.Statement .cpB := rfl
theorem Sys2Proof.Laws.Length.cpC : Sys2Proof.Laws.Length.Statement .cpC := rfl
theorem Sys2Proof.Laws.Length.cpD : Sys2Proof.Laws.Length.Statement .cpD := rfl
theorem Sys2Proof.Laws.Length.cpE : Sys2Proof.Laws.Length.Statement .cpE := rfl
theorem Sys2Proof.Laws.Length.cpH : Sys2Proof.Laws.Length.Statement .cpH := rfl
theorem Sys2Proof.Laws.Length.cpL : Sys2Proof.Laws.Length.Statement .cpL := rfl
theorem Sys2Proof.Laws.Length.cpIndHl : Sys2Proof.Laws.Length.Statement .cpIndHl := rfl
theorem Sys2Proof.Laws.Length.cpA : Sys2Proof.Laws.Length.Statement .cpA := rfl
theorem Sys2Proof.Laws.Length.retNz : Sys2Proof.Laws.Length.Statement .retNz := rfl
theorem Sys2Proof.Laws.Length.popBc : Sys2Proof.Laws.Length.Statement .popBc := rfl
theorem Sys2Proof.Laws.Length.jpNzNn (nn : Sys2Proof.Word) : Sys2Proof.Laws.Length.Statement (.jpNzNn nn) := rfl
theorem Sys2Proof.Laws.Length.jpNn (nn : Sys2Proof.Word) : Sys2Proof.Laws.Length.Statement (.jpNn nn) := rfl
theorem Sys2Proof.Laws.Length.callNzNn (nn : Sys2Proof.Word) : Sys2Proof.Laws.Length.Statement (.callNzNn nn) := rfl
theorem Sys2Proof.Laws.Length.pushBc : Sys2Proof.Laws.Length.Statement .pushBc := rfl
theorem Sys2Proof.Laws.Length.addAN (n : Sys2Proof.Byte) : Sys2Proof.Laws.Length.Statement (.addAN n) := rfl
theorem Sys2Proof.Laws.Length.rst00 : Sys2Proof.Laws.Length.Statement .rst00 := rfl
theorem Sys2Proof.Laws.Length.retZ : Sys2Proof.Laws.Length.Statement .retZ := rfl
theorem Sys2Proof.Laws.Length.ret : Sys2Proof.Laws.Length.Statement .ret := rfl
theorem Sys2Proof.Laws.Length.jpZNn (nn : Sys2Proof.Word) : Sys2Proof.Laws.Length.Statement (.jpZNn nn) := rfl
theorem Sys2Proof.Laws.Length.prefixCb (op2 : Sys2Proof.Byte) : Sys2Proof.Laws.Length.Statement (.prefixCb op2) := rfl
theorem Sys2Proof.Laws.Length.callZNn (nn : Sys2Proof.Word) : Sys2Proof.Laws.Length.Statement (.callZNn nn) := rfl
theorem Sys2Proof.Laws.Length.callNn (nn : Sys2Proof.Word) : Sys2Proof.Laws.Length.Statement (.callNn nn) := rfl
theorem Sys2Proof.Laws.Length.adcAN (n : Sys2Proof.Byte) : Sys2Proof.Laws.Length.Statement (.adcAN n) := rfl
theorem Sys2Proof.Laws.Length.rst08 : Sys2Proof.Laws.Length.Statement .rst08 := rfl
theorem Sys2Proof.Laws.Length.retNc : Sys2Proof.Laws.Length.Statement .retNc := rfl
theorem Sys2Proof.Laws.Length.popDe : Sys2Proof.Laws.Length.Statement .popDe := rfl
theorem Sys2Proof.Laws.Length.jpNcNn (nn : Sys2Proof.Word) : Sys2Proof.Laws.Length.Statement (.jpNcNn nn) := rfl
theorem Sys2Proof.Laws.Length.illegalD3 : Sys2Proof.Laws.Length.Statement .illegalD3 := rfl
theorem Sys2Proof.Laws.Length.callNcNn (nn : Sys2Proof.Word) : Sys2Proof.Laws.Length.Statement (.callNcNn nn) := rfl
theorem Sys2Proof.Laws.Length.pushDe : Sys2Proof.Laws.Length.Statement .pushDe := rfl
theorem Sys2Proof.Laws.Length.subN (n : Sys2Proof.Byte) : Sys2Proof.Laws.Length.Statement (.subN n) := rfl
theorem Sys2Proof.Laws.Length.rst10 : Sys2Proof.Laws.Length.Statement .rst10 := rfl
theorem Sys2Proof.Laws.Length.retC : Sys2Proof.Laws.Length.Statement .retC := rfl
theorem Sys2Proof.Laws.Length.reti : Sys2Proof.Laws.Length.Statement .reti := rfl
theorem Sys2Proof.Laws.Length.jpCNn (nn : Sys2Proof.Word) : Sys2Proof.Laws.Length.Statement (.jpCNn nn) := rfl
theorem Sys2Proof.Laws.Length.illegalDB : Sys2Proof.Laws.Length.Statement .illegalDB := rfl
theorem Sys2Proof.Laws.Length.callCNn (nn : Sys2Proof.Word) : Sys2Proof.Laws.Length.Statement (.callCNn nn) := rfl
theorem Sys2Proof.Laws.Length.illegalDD : Sys2Proof.Laws.Length.Statement .illegalDD := rfl
theorem Sys2Proof.Laws.Length.sbcAN (n : Sys2Proof.Byte) : Sys2Proof.Laws.Length.Statement (.sbcAN n) := rfl
theorem Sys2Proof.Laws.Length.rst18 : Sys2Proof.Laws.Length.Statement .rst18 := rfl
theorem Sys2Proof.Laws.Length.ldhIndNA (n : Sys2Proof.Byte) : Sys2Proof.Laws.Length.Statement (.ldhIndNA n) := rfl
theorem Sys2Proof.Laws.Length.popHl : Sys2Proof.Laws.Length.Statement .popHl := rfl
theorem Sys2Proof.Laws.Length.ldhIndCA : Sys2Proof.Laws.Length.Statement .ldhIndCA := rfl
theorem Sys2Proof.Laws.Length.illegalE3 : Sys2Proof.Laws.Length.Statement .illegalE3 := rfl
theorem Sys2Proof.Laws.Length.illegalE4 : Sys2Proof.Laws.Length.Statement .illegalE4 := rfl
theorem Sys2Proof.Laws.Length.pushHl : Sys2Proof.Laws.Length.Statement .pushHl := rfl
theorem Sys2Proof.Laws.Length.andN (n : Sys2Proof.Byte) : Sys2Proof.Laws.Length.Statement (.andN n) := rfl
theorem Sys2Proof.Laws.Length.rst20 : Sys2Proof.Laws.Length.Statement .rst20 := rfl
theorem Sys2Proof.Laws.Length.addSpE (e : Sys2Proof.Byte) : Sys2Proof.Laws.Length.Statement (.addSpE e) := rfl
theorem Sys2Proof.Laws.Length.jpHl : Sys2Proof.Laws.Length.Statement .jpHl := rfl
theorem Sys2Proof.Laws.Length.ldIndNnA (nn : Sys2Proof.Word) : Sys2Proof.Laws.Length.Statement (.ldIndNnA nn) := rfl
theorem Sys2Proof.Laws.Length.illegalEB : Sys2Proof.Laws.Length.Statement .illegalEB := rfl
theorem Sys2Proof.Laws.Length.illegalEC : Sys2Proof.Laws.Length.Statement .illegalEC := rfl
theorem Sys2Proof.Laws.Length.illegalED : Sys2Proof.Laws.Length.Statement .illegalED := rfl
theorem Sys2Proof.Laws.Length.xorN (n : Sys2Proof.Byte) : Sys2Proof.Laws.Length.Statement (.xorN n) := rfl
theorem Sys2Proof.Laws.Length.rst28 : Sys2Proof.Laws.Length.Statement .rst28 := rfl
theorem Sys2Proof.Laws.Length.ldhAIndN (n : Sys2Proof.Byte) : Sys2Proof.Laws.Length.Statement (.ldhAIndN n) := rfl
theorem Sys2Proof.Laws.Length.popAf : Sys2Proof.Laws.Length.Statement .popAf := rfl
theorem Sys2Proof.Laws.Length.ldhAIndC : Sys2Proof.Laws.Length.Statement .ldhAIndC := rfl
theorem Sys2Proof.Laws.Length.di : Sys2Proof.Laws.Length.Statement .di := rfl
theorem Sys2Proof.Laws.Length.illegalF4 : Sys2Proof.Laws.Length.Statement .illegalF4 := rfl
theorem Sys2Proof.Laws.Length.pushAf : Sys2Proof.Laws.Length.Statement .pushAf := rfl
theorem Sys2Proof.Laws.Length.orN (n : Sys2Proof.Byte) : Sys2Proof.Laws.Length.Statement (.orN n) := rfl
theorem Sys2Proof.Laws.Length.rst30 : Sys2Proof.Laws.Length.Statement .rst30 := rfl
theorem Sys2Proof.Laws.Length.ldHlSpE (e : Sys2Proof.Byte) : Sys2Proof.Laws.Length.Statement (.ldHlSpE e) := rfl
theorem Sys2Proof.Laws.Length.ldSpHl : Sys2Proof.Laws.Length.Statement .ldSpHl := rfl
theorem Sys2Proof.Laws.Length.ldAIndNn (nn : Sys2Proof.Word) : Sys2Proof.Laws.Length.Statement (.ldAIndNn nn) := rfl
theorem Sys2Proof.Laws.Length.ei : Sys2Proof.Laws.Length.Statement .ei := rfl
theorem Sys2Proof.Laws.Length.illegalFC : Sys2Proof.Laws.Length.Statement .illegalFC := rfl
theorem Sys2Proof.Laws.Length.illegalFD : Sys2Proof.Laws.Length.Statement .illegalFD := rfl
theorem Sys2Proof.Laws.Length.cpN (n : Sys2Proof.Byte) : Sys2Proof.Laws.Length.Statement (.cpN n) := rfl
theorem Sys2Proof.Laws.Length.rst38 : Sys2Proof.Laws.Length.Statement .rst38 := rfl
theorem Sys2Proof.Laws.Length.rlcB : Sys2Proof.Laws.Length.Statement .rlcB := rfl
theorem Sys2Proof.Laws.Length.rlcC : Sys2Proof.Laws.Length.Statement .rlcC := rfl
theorem Sys2Proof.Laws.Length.rlcD : Sys2Proof.Laws.Length.Statement .rlcD := rfl
theorem Sys2Proof.Laws.Length.rlcE : Sys2Proof.Laws.Length.Statement .rlcE := rfl
theorem Sys2Proof.Laws.Length.rlcH : Sys2Proof.Laws.Length.Statement .rlcH := rfl
theorem Sys2Proof.Laws.Length.rlcL : Sys2Proof.Laws.Length.Statement .rlcL := rfl
theorem Sys2Proof.Laws.Length.rlcIndHl : Sys2Proof.Laws.Length.Statement .rlcIndHl := rfl
theorem Sys2Proof.Laws.Length.rlcA : Sys2Proof.Laws.Length.Statement .rlcA := rfl
theorem Sys2Proof.Laws.Length.rrcB : Sys2Proof.Laws.Length.Statement .rrcB := rfl
theorem Sys2Proof.Laws.Length.rrcC : Sys2Proof.Laws.Length.Statement .rrcC := rfl
theorem Sys2Proof.Laws.Length.rrcD : Sys2Proof.Laws.Length.Statement .rrcD := rfl
theorem Sys2Proof.Laws.Length.rrcE : Sys2Proof.Laws.Length.Statement .rrcE := rfl
theorem Sys2Proof.Laws.Length.rrcH : Sys2Proof.Laws.Length.Statement .rrcH := rfl
theorem Sys2Proof.Laws.Length.rrcL : Sys2Proof.Laws.Length.Statement .rrcL := rfl
theorem Sys2Proof.Laws.Length.rrcIndHl : Sys2Proof.Laws.Length.Statement .rrcIndHl := rfl
theorem Sys2Proof.Laws.Length.rrcA : Sys2Proof.Laws.Length.Statement .rrcA := rfl
theorem Sys2Proof.Laws.Length.rlB : Sys2Proof.Laws.Length.Statement .rlB := rfl
theorem Sys2Proof.Laws.Length.rlC : Sys2Proof.Laws.Length.Statement .rlC := rfl
theorem Sys2Proof.Laws.Length.rlD : Sys2Proof.Laws.Length.Statement .rlD := rfl
theorem Sys2Proof.Laws.Length.rlE : Sys2Proof.Laws.Length.Statement .rlE := rfl
theorem Sys2Proof.Laws.Length.rlH : Sys2Proof.Laws.Length.Statement .rlH := rfl
theorem Sys2Proof.Laws.Length.rlL : Sys2Proof.Laws.Length.Statement .rlL := rfl
theorem Sys2Proof.Laws.Length.rlIndHl : Sys2Proof.Laws.Length.Statement .rlIndHl := rfl
theorem Sys2Proof.Laws.Length.rlA : Sys2Proof.Laws.Length.Statement .rlA := rfl
theorem Sys2Proof.Laws.Length.rrB : Sys2Proof.Laws.Length.Statement .rrB := rfl
theorem Sys2Proof.Laws.Length.rrC : Sys2Proof.Laws.Length.Statement .rrC := rfl
theorem Sys2Proof.Laws.Length.rrD : Sys2Proof.Laws.Length.Statement .rrD := rfl
theorem Sys2Proof.Laws.Length.rrE : Sys2Proof.Laws.Length.Statement .rrE := rfl
theorem Sys2Proof.Laws.Length.rrH : Sys2Proof.Laws.Length.Statement .rrH := rfl
theorem Sys2Proof.Laws.Length.rrL : Sys2Proof.Laws.Length.Statement .rrL := rfl
theorem Sys2Proof.Laws.Length.rrIndHl : Sys2Proof.Laws.Length.Statement .rrIndHl := rfl
theorem Sys2Proof.Laws.Length.rrA : Sys2Proof.Laws.Length.Statement .rrA := rfl
theorem Sys2Proof.Laws.Length.slaB : Sys2Proof.Laws.Length.Statement .slaB := rfl
theorem Sys2Proof.Laws.Length.slaC : Sys2Proof.Laws.Length.Statement .slaC := rfl
theorem Sys2Proof.Laws.Length.slaD : Sys2Proof.Laws.Length.Statement .slaD := rfl
theorem Sys2Proof.Laws.Length.slaE : Sys2Proof.Laws.Length.Statement .slaE := rfl
theorem Sys2Proof.Laws.Length.slaH : Sys2Proof.Laws.Length.Statement .slaH := rfl
theorem Sys2Proof.Laws.Length.slaL : Sys2Proof.Laws.Length.Statement .slaL := rfl
theorem Sys2Proof.Laws.Length.slaIndHl : Sys2Proof.Laws.Length.Statement .slaIndHl := rfl
theorem Sys2Proof.Laws.Length.slaA : Sys2Proof.Laws.Length.Statement .slaA := rfl
theorem Sys2Proof.Laws.Length.sraB : Sys2Proof.Laws.Length.Statement .sraB := rfl
theorem Sys2Proof.Laws.Length.sraC : Sys2Proof.Laws.Length.Statement .sraC := rfl
theorem Sys2Proof.Laws.Length.sraD : Sys2Proof.Laws.Length.Statement .sraD := rfl
theorem Sys2Proof.Laws.Length.sraE : Sys2Proof.Laws.Length.Statement .sraE := rfl
theorem Sys2Proof.Laws.Length.sraH : Sys2Proof.Laws.Length.Statement .sraH := rfl
theorem Sys2Proof.Laws.Length.sraL : Sys2Proof.Laws.Length.Statement .sraL := rfl
theorem Sys2Proof.Laws.Length.sraIndHl : Sys2Proof.Laws.Length.Statement .sraIndHl := rfl
theorem Sys2Proof.Laws.Length.sraA : Sys2Proof.Laws.Length.Statement .sraA := rfl
theorem Sys2Proof.Laws.Length.swapB : Sys2Proof.Laws.Length.Statement .swapB := rfl
theorem Sys2Proof.Laws.Length.swapC : Sys2Proof.Laws.Length.Statement .swapC := rfl
theorem Sys2Proof.Laws.Length.swapD : Sys2Proof.Laws.Length.Statement .swapD := rfl
theorem Sys2Proof.Laws.Length.swapE : Sys2Proof.Laws.Length.Statement .swapE := rfl
theorem Sys2Proof.Laws.Length.swapH : Sys2Proof.Laws.Length.Statement .swapH := rfl
theorem Sys2Proof.Laws.Length.swapL : Sys2Proof.Laws.Length.Statement .swapL := rfl
theorem Sys2Proof.Laws.Length.swapIndHl : Sys2Proof.Laws.Length.Statement .swapIndHl := rfl
theorem Sys2Proof.Laws.Length.swapA : Sys2Proof.Laws.Length.Statement .swapA := rfl
theorem Sys2Proof.Laws.Length.srlB : Sys2Proof.Laws.Length.Statement .srlB := rfl
theorem Sys2Proof.Laws.Length.srlC : Sys2Proof.Laws.Length.Statement .srlC := rfl
theorem Sys2Proof.Laws.Length.srlD : Sys2Proof.Laws.Length.Statement .srlD := rfl
theorem Sys2Proof.Laws.Length.srlE : Sys2Proof.Laws.Length.Statement .srlE := rfl
theorem Sys2Proof.Laws.Length.srlH : Sys2Proof.Laws.Length.Statement .srlH := rfl
theorem Sys2Proof.Laws.Length.srlL : Sys2Proof.Laws.Length.Statement .srlL := rfl
theorem Sys2Proof.Laws.Length.srlIndHl : Sys2Proof.Laws.Length.Statement .srlIndHl := rfl
theorem Sys2Proof.Laws.Length.srlA : Sys2Proof.Laws.Length.Statement .srlA := rfl
theorem Sys2Proof.Laws.Length.bit0B : Sys2Proof.Laws.Length.Statement .bit0B := rfl
theorem Sys2Proof.Laws.Length.bit0C : Sys2Proof.Laws.Length.Statement .bit0C := rfl
theorem Sys2Proof.Laws.Length.bit0D : Sys2Proof.Laws.Length.Statement .bit0D := rfl
theorem Sys2Proof.Laws.Length.bit0E : Sys2Proof.Laws.Length.Statement .bit0E := rfl
theorem Sys2Proof.Laws.Length.bit0H : Sys2Proof.Laws.Length.Statement .bit0H := rfl
theorem Sys2Proof.Laws.Length.bit0L : Sys2Proof.Laws.Length.Statement .bit0L := rfl
theorem Sys2Proof.Laws.Length.bit0IndHl : Sys2Proof.Laws.Length.Statement .bit0IndHl := rfl
theorem Sys2Proof.Laws.Length.bit0A : Sys2Proof.Laws.Length.Statement .bit0A := rfl
theorem Sys2Proof.Laws.Length.bit1B : Sys2Proof.Laws.Length.Statement .bit1B := rfl
theorem Sys2Proof.Laws.Length.bit1C : Sys2Proof.Laws.Length.Statement .bit1C := rfl
theorem Sys2Proof.Laws.Length.bit1D : Sys2Proof.Laws.Length.Statement .bit1D := rfl
theorem Sys2Proof.Laws.Length.bit1E : Sys2Proof.Laws.Length.Statement .bit1E := rfl
theorem Sys2Proof.Laws.Length.bit1H : Sys2Proof.Laws.Length.Statement .bit1H := rfl
theorem Sys2Proof.Laws.Length.bit1L : Sys2Proof.Laws.Length.Statement .bit1L := rfl
theorem Sys2Proof.Laws.Length.bit1IndHl : Sys2Proof.Laws.Length.Statement .bit1IndHl := rfl
theorem Sys2Proof.Laws.Length.bit1A : Sys2Proof.Laws.Length.Statement .bit1A := rfl
theorem Sys2Proof.Laws.Length.bit2B : Sys2Proof.Laws.Length.Statement .bit2B := rfl
theorem Sys2Proof.Laws.Length.bit2C : Sys2Proof.Laws.Length.Statement .bit2C := rfl
theorem Sys2Proof.Laws.Length.bit2D : Sys2Proof.Laws.Length.Statement .bit2D := rfl
theorem Sys2Proof.Laws.Length.bit2E : Sys2Proof.Laws.Length.Statement .bit2E := rfl
theorem Sys2Proof.Laws.Length.bit2H : Sys2Proof.Laws.Length.Statement .bit2H := rfl
theorem Sys2Proof.Laws.Length.bit2L : Sys2Proof.Laws.Length.Statement .bit2L := rfl
theorem Sys2Proof.Laws.Length.bit2IndHl : Sys2Proof.Laws.Length.Statement .bit2IndHl := rfl
theorem Sys2Proof.Laws.Length.bit2A : Sys2Proof.Laws.Length.Statement .bit2A := rfl
theorem Sys2Proof.Laws.Length.bit3B : Sys2Proof.Laws.Length.Statement .bit3B := rfl
theorem Sys2Proof.Laws.Length.bit3C : Sys2Proof.Laws.Length.Statement .bit3C := rfl
theorem Sys2Proof.Laws.Length.bit3D : Sys2Proof.Laws.Length.Statement .bit3D := rfl
theorem Sys2Proof.Laws.Length.bit3E : Sys2Proof.Laws.Length.Statement .bit3E := rfl
theorem Sys2Proof.Laws.Length.bit3H : Sys2Proof.Laws.Length.Statement .bit3H := rfl
theorem Sys2Proof.Laws.Length.bit3L : Sys2Proof.Laws.Length.Statement .bit3L := rfl
theorem Sys2Proof.Laws.Length.bit3IndHl : Sys2Proof.Laws.Length.Statement .bit3IndHl := rfl
theorem Sys2Proof.Laws.Length.bit3A : Sys2Proof.Laws.Length.Statement .bit3A := rfl
theorem Sys2Proof.Laws.Length.bit4B : Sys2Proof.Laws.Length.Statement .bit4B := rfl
theorem Sys2Proof.Laws.Length.bit4C : Sys2Proof.Laws.Length.Statement .bit4C := rfl
theorem Sys2Proof.Laws.Length.bit4D : Sys2Proof.Laws.Length.Statement .bit4D := rfl
theorem Sys2Proof.Laws.Length.bit4E : Sys2Proof.Laws.Length.Statement .bit4E := rfl
theorem Sys2Proof.Laws.Length.bit4H : Sys2Proof.Laws.Length.Statement .bit4H := rfl
theorem Sys2Proof.Laws.Length.bit4L : Sys2Proof.Laws.Length.Statement .bit4L := rfl
theorem Sys2Proof.Laws.Length.bit4IndHl : Sys2Proof.Laws.Length.Statement .bit4IndHl := rfl
theorem Sys2Proof.Laws.Length.bit4A : Sys2Proof.Laws.Length.Statement .bit4A := rfl
theorem Sys2Proof.Laws.Length.bit5B : Sys2Proof.Laws.Length.Statement .bit5B := rfl
theorem Sys2Proof.Laws.Length.bit5C : Sys2Proof.Laws.Length.Statement .bit5C := rfl
theorem Sys2Proof.Laws.Length.bit5D : Sys2Proof.Laws.Length.Statement .bit5D := rfl
theorem Sys2Proof.Laws.Length.bit5E : Sys2Proof.Laws.Length.Statement .bit5E := rfl
theorem Sys2Proof.Laws.Length.bit5H : Sys2Proof.Laws.Length.Statement .bit5H := rfl
theorem Sys2Proof.Laws.Length.bit5L : Sys2Proof.Laws.Length.Statement .bit5L := rfl
theorem Sys2Proof.Laws.Length.bit5IndHl : Sys2Proof.Laws.Length.Statement .bit5IndHl := rfl
theorem Sys2Proof.Laws.Length.bit5A : Sys2Proof.Laws.Length.Statement .bit5A := rfl
theorem Sys2Proof.Laws.Length.bit6B : Sys2Proof.Laws.Length.Statement .bit6B := rfl
theorem Sys2Proof.Laws.Length.bit6C : Sys2Proof.Laws.Length.Statement .bit6C := rfl
theorem Sys2Proof.Laws.Length.bit6D : Sys2Proof.Laws.Length.Statement .bit6D := rfl
theorem Sys2Proof.Laws.Length.bit6E : Sys2Proof.Laws.Length.Statement .bit6E := rfl
theorem Sys2Proof.Laws.Length.bit6H : Sys2Proof.Laws.Length.Statement .bit6H := rfl
theorem Sys2Proof.Laws.Length.bit6L : Sys2Proof.Laws.Length.Statement .bit6L := rfl
theorem Sys2Proof.Laws.Length.bit6IndHl : Sys2Proof.Laws.Length.Statement .bit6IndHl := rfl
theorem Sys2Proof.Laws.Length.bit6A : Sys2Proof.Laws.Length.Statement .bit6A := rfl
theorem Sys2Proof.Laws.Length.bit7B : Sys2Proof.Laws.Length.Statement .bit7B := rfl
theorem Sys2Proof.Laws.Length.bit7C : Sys2Proof.Laws.Length.Statement .bit7C := rfl
theorem Sys2Proof.Laws.Length.bit7D : Sys2Proof.Laws.Length.Statement .bit7D := rfl
theorem Sys2Proof.Laws.Length.bit7E : Sys2Proof.Laws.Length.Statement .bit7E := rfl
theorem Sys2Proof.Laws.Length.bit7H : Sys2Proof.Laws.Length.Statement .bit7H := rfl
theorem Sys2Proof.Laws.Length.bit7L : Sys2Proof.Laws.Length.Statement .bit7L := rfl
theorem Sys2Proof.Laws.Length.bit7IndHl : Sys2Proof.Laws.Length.Statement .bit7IndHl := rfl
theorem Sys2Proof.Laws.Length.bit7A : Sys2Proof.Laws.Length.Statement .bit7A := rfl
theorem Sys2Proof.Laws.Length.res0B : Sys2Proof.Laws.Length.Statement .res0B := rfl
theorem Sys2Proof.Laws.Length.res0C : Sys2Proof.Laws.Length.Statement .res0C := rfl
theorem Sys2Proof.Laws.Length.res0D : Sys2Proof.Laws.Length.Statement .res0D := rfl
theorem Sys2Proof.Laws.Length.res0E : Sys2Proof.Laws.Length.Statement .res0E := rfl
theorem Sys2Proof.Laws.Length.res0H : Sys2Proof.Laws.Length.Statement .res0H := rfl
theorem Sys2Proof.Laws.Length.res0L : Sys2Proof.Laws.Length.Statement .res0L := rfl
theorem Sys2Proof.Laws.Length.res0IndHl : Sys2Proof.Laws.Length.Statement .res0IndHl := rfl
theorem Sys2Proof.Laws.Length.res0A : Sys2Proof.Laws.Length.Statement .res0A := rfl
theorem Sys2Proof.Laws.Length.res1B : Sys2Proof.Laws.Length.Statement .res1B := rfl
theorem Sys2Proof.Laws.Length.res1C : Sys2Proof.Laws.Length.Statement .res1C := rfl
theorem Sys2Proof.Laws.Length.res1D : Sys2Proof.Laws.Length.Statement .res1D := rfl
theorem Sys2Proof.Laws.Length.res1E : Sys2Proof.Laws.Length.Statement .res1E := rfl
theorem Sys2Proof.Laws.Length.res1H : Sys2Proof.Laws.Length.Statement .res1H := rfl
theorem Sys2Proof.Laws.Length.res1L : Sys2Proof.Laws.Length.Statement .res1L := rfl
theorem Sys2Proof.Laws.Length.res1IndHl : Sys2Proof.Laws.Length.Statement .res1IndHl := rfl
theorem Sys2Proof.Laws.Length.res1A : Sys2Proof.Laws.Length.Statement .res1A := rfl
theorem Sys2Proof.Laws.Length.res2B : Sys2Proof.Laws.Length.Statement .res2B := rfl
theorem Sys2Proof.Laws.Length.res2C : Sys2Proof.Laws.Length.Statement .res2C := rfl
theorem Sys2Proof.Laws.Length.res2D : Sys2Proof.Laws.Length.Statement .res2D := rfl
theorem Sys2Proof.Laws.Length.res2E : Sys2Proof.Laws.Length.Statement .res2E := rfl
theorem Sys2Proof.Laws.Length.res2H : Sys2Proof.Laws.Length.Statement .res2H := rfl
theorem Sys2Proof.Laws.Length.res2L : Sys2Proof.Laws.Length.Statement .res2L := rfl
theorem Sys2Proof.Laws.Length.res2IndHl : Sys2Proof.Laws.Length.Statement .res2IndHl := rfl
theorem Sys2Proof.Laws.Length.res2A : Sys2Proof.Laws.Length.Statement .res2A := rfl
theorem Sys2Proof.Laws.Length.res3B : Sys2Proof.Laws.Length.Statement .res3B := rfl
theorem Sys2Proof.Laws.Length.res3C : Sys2Proof.Laws.Length.Statement .res3C := rfl
theorem Sys2Proof.Laws.Length.res3D : Sys2Proof.Laws.Length.Statement .res3D := rfl
theorem Sys2Proof.Laws.Length.res3E : Sys2Proof.Laws.Length.Statement .res3E := rfl
theorem Sys2Proof.Laws.Length.res3H : Sys2Proof.Laws.Length.Statement .res3H := rfl
theorem Sys2Proof.Laws.Length.res3L : Sys2Proof.Laws.Length.Statement .res3L := rfl
theorem Sys2Proof.Laws.Length.res3IndHl : Sys2Proof.Laws.Length.Statement .res3IndHl := rfl
theorem Sys2Proof.Laws.Length.res3A : Sys2Proof.Laws.Length.Statement .res3A := rfl
theorem Sys2Proof.Laws.Length.res4B : Sys2Proof.Laws.Length.Statement .res4B := rfl
theorem Sys2Proof.Laws.Length.res4C : Sys2Proof.Laws.Length.Statement .res4C := rfl
theorem Sys2Proof.Laws.Length.res4D : Sys2Proof.Laws.Length.Statement .res4D := rfl
theorem Sys2Proof.Laws.Length.res4E : Sys2Proof.Laws.Length.Statement .res4E := rfl
theorem Sys2Proof.Laws.Length.res4H : Sys2Proof.Laws.Length.Statement .res4H := rfl
theorem Sys2Proof.Laws.Length.res4L : Sys2Proof.Laws.Length.Statement .res4L := rfl
theorem Sys2Proof.Laws.Length.res4IndHl : Sys2Proof.Laws.Length.Statement .res4IndHl := rfl
theorem Sys2Proof.Laws.Length.res4A : Sys2Proof.Laws.Length.Statement .res4A := rfl
theorem Sys2Proof.Laws.Length.res5B : Sys2Proof.Laws.Length.Statement .res5B := rfl
theorem Sys2Proof.Laws.Length.res5C : Sys2Proof.Laws.Length.Statement .res5C := rfl
theorem Sys2Proof.Laws.Length.res5D : Sys2Proof.Laws.Length.Statement .res5D := rfl
theorem Sys2Proof.Laws.Length.res5E : Sys2Proof.Laws.Length.Statement .res5E := rfl
theorem Sys2Proof.Laws.Length.res5H : Sys2Proof.Laws.Length.Statement .res5H := rfl
theorem Sys2Proof.Laws.Length.res5L : Sys2Proof.Laws.Length.Statement .res5L := rfl
theorem Sys2Proof.Laws.Length.res5IndHl : Sys2Proof.Laws.Length.Statement .res5IndHl := rfl
theorem Sys2Proof.Laws.Length.res5A : Sys2Proof.Laws.Length.Statement .res5A := rfl
theorem Sys2Proof.Laws.Length.res6B : Sys2Proof.Laws.Length.Statement .res6B := rfl
theorem Sys2Proof.Laws.Length.res6C : Sys2Proof.Laws.Length.Statement .res6C := rfl
theorem Sys2Proof.Laws.Length.res6D : Sys2Proof.Laws.Length.Statement .res6D := rfl
theorem Sys2Proof.Laws.Length.res6E : Sys2Proof.Laws.Length.Statement .res6E := rfl
theorem Sys2Proof.Laws.Length.res6H : Sys2Proof.Laws.Length.Statement .res6H := rfl
theorem Sys2Proof.Laws.Length.res6L : Sys2Proof.Laws.Length.Statement .res6L := rfl
theorem Sys2Proof.Laws.Length.res6IndHl : Sys2Proof.Laws.Length.Statement .res6IndHl := rfl
theorem Sys2Proof.Laws.Length.res6A : Sys2Proof.Laws.Length.Statement .res6A := rfl
theorem Sys2Proof.Laws.Length.res7B : Sys2Proof.Laws.Length.Statement .res7B := rfl
theorem Sys2Proof.Laws.Length.res7C : Sys2Proof.Laws.Length.Statement .res7C := rfl
theorem Sys2Proof.Laws.Length.res7D : Sys2Proof.Laws.Length.Statement .res7D := rfl
theorem Sys2Proof.Laws.Length.res7E : Sys2Proof.Laws.Length.Statement .res7E := rfl
theorem Sys2Proof.Laws.Length.res7H : Sys2Proof.Laws.Length.Statement .res7H := rfl
theorem Sys2Proof.Laws.Length.res7L : Sys2Proof.Laws.Length.Statement .res7L := rfl
theorem Sys2Proof.Laws.Length.res7IndHl : Sys2Proof.Laws.Length.Statement .res7IndHl := rfl
theorem Sys2Proof.Laws.Length.res7A : Sys2Proof.Laws.Length.Statement .res7A := rfl
theorem Sys2Proof.Laws.Length.set0B : Sys2Proof.Laws.Length.Statement .set0B := rfl
theorem Sys2Proof.Laws.Length.set0C : Sys2Proof.Laws.Length.Statement .set0C := rfl
theorem Sys2Proof.Laws.Length.set0D : Sys2Proof.Laws.Length.Statement .set0D := rfl
theorem Sys2Proof.Laws.Length.set0E : Sys2Proof.Laws.Length.Statement .set0E := rfl
theorem Sys2Proof.Laws.Length.set0H : Sys2Proof.Laws.Length.Statement .set0H := rfl
theorem Sys2Proof.Laws.Length.set0L : Sys2Proof.Laws.Length.Statement .set0L := rfl
theorem Sys2Proof.Laws.Length.set0IndHl : Sys2Proof.Laws.Length.Statement .set0IndHl := rfl
theorem Sys2Proof.Laws.Length.set0A : Sys2Proof.Laws.Length.Statement .set0A := rfl
theorem Sys2Proof.Laws.Length.set1B : Sys2Proof.Laws.Length.Statement .set1B := rfl
theorem Sys2Proof.Laws.Length.set1C : Sys2Proof.Laws.Length.Statement .set1C := rfl
theorem Sys2Proof.Laws.Length.set1D : Sys2Proof.Laws.Length.Statement .set1D := rfl
theorem Sys2Proof.Laws.Length.set1E : Sys2Proof.Laws.Length.Statement .set1E := rfl
theorem Sys2Proof.Laws.Length.set1H : Sys2Proof.Laws.Length.Statement .set1H := rfl
theorem Sys2Proof.Laws.Length.set1L : Sys2Proof.Laws.Length.Statement .set1L := rfl
theorem Sys2Proof.Laws.Length.set1IndHl : Sys2Proof.Laws.Length.Statement .set1IndHl := rfl
theorem Sys2Proof.Laws.Length.set1A : Sys2Proof.Laws.Length.Statement .set1A := rfl
theorem Sys2Proof.Laws.Length.set2B : Sys2Proof.Laws.Length.Statement .set2B := rfl
theorem Sys2Proof.Laws.Length.set2C : Sys2Proof.Laws.Length.Statement .set2C := rfl
theorem Sys2Proof.Laws.Length.set2D : Sys2Proof.Laws.Length.Statement .set2D := rfl
theorem Sys2Proof.Laws.Length.set2E : Sys2Proof.Laws.Length.Statement .set2E := rfl
theorem Sys2Proof.Laws.Length.set2H : Sys2Proof.Laws.Length.Statement .set2H := rfl
theorem Sys2Proof.Laws.Length.set2L : Sys2Proof.Laws.Length.Statement .set2L := rfl
theorem Sys2Proof.Laws.Length.set2IndHl : Sys2Proof.Laws.Length.Statement .set2IndHl := rfl
theorem Sys2Proof.Laws.Length.set2A : Sys2Proof.Laws.Length.Statement .set2A := rfl
theorem Sys2Proof.Laws.Length.set3B : Sys2Proof.Laws.Length.Statement .set3B := rfl
theorem Sys2Proof.Laws.Length.set3C : Sys2Proof.Laws.Length.Statement .set3C := rfl
theorem Sys2Proof.Laws.Length.set3D : Sys2Proof.Laws.Length.Statement .set3D := rfl
theorem Sys2Proof.Laws.Length.set3E : Sys2Proof.Laws.Length.Statement .set3E := rfl
theorem Sys2Proof.Laws.Length.set3H : Sys2Proof.Laws.Length.Statement .set3H := rfl
theorem Sys2Proof.Laws.Length.set3L : Sys2Proof.Laws.Length.Statement .set3L := rfl
theorem Sys2Proof.Laws.Length.set3IndHl : Sys2Proof.Laws.Length.Statement .set3IndHl := rfl
theorem Sys2Proof.Laws.Length.set3A : Sys2Proof.Laws.Length.Statement .set3A := rfl
theorem Sys2Proof.Laws.Length.set4B : Sys2Proof.Laws.Length.Statement .set4B := rfl
theorem Sys2Proof.Laws.Length.set4C : Sys2Proof.Laws.Length.Statement .set4C := rfl
theorem Sys2Proof.Laws.Length.set4D : Sys2Proof.Laws.Length.Statement .set4D := rfl
theorem Sys2Proof.Laws.Length.set4E : Sys2Proof.Laws.Length.Statement .set4E := rfl
theorem Sys2Proof.Laws.Length.set4H : Sys2Proof.Laws.Length.Statement .set4H := rfl
theorem Sys2Proof.Laws.Length.set4L : Sys2Proof.Laws.Length.Statement .set4L := rfl
theorem Sys2Proof.Laws.Length.set4IndHl : Sys2Proof.Laws.Length.Statement .set4IndHl := rfl
theorem Sys2Proof.Laws.Length.set4A : Sys2Proof.Laws.Length.Statement .set4A := rfl
theorem Sys2Proof.Laws.Length.set5B : Sys2Proof.Laws.Length.Statement .set5B := rfl
theorem Sys2Proof.Laws.Length.set5C : Sys2Proof.Laws.Length.Statement .set5C := rfl
theorem Sys2Proof.Laws.Length.set5D : Sys2Proof.Laws.Length.Statement .set5D := rfl
theorem Sys2Proof.Laws.Length.set5E : Sys2Proof.Laws.Length.Statement .set5E := rfl
theorem Sys2Proof.Laws.Length.set5H : Sys2Proof.Laws.Length.Statement .set5H := rfl
theorem Sys2Proof.Laws.Length.set5L : Sys2Proof.Laws.Length.Statement .set5L := rfl
theorem Sys2Proof.Laws.Length.set5IndHl : Sys2Proof.Laws.Length.Statement .set5IndHl := rfl
theorem Sys2Proof.Laws.Length.set5A : Sys2Proof.Laws.Length.Statement .set5A := rfl
theorem Sys2Proof.Laws.Length.set6B : Sys2Proof.Laws.Length.Statement .set6B := rfl
theorem Sys2Proof.Laws.Length.set6C : Sys2Proof.Laws.Length.Statement .set6C := rfl
theorem Sys2Proof.Laws.Length.set6D : Sys2Proof.Laws.Length.Statement .set6D := rfl
theorem Sys2Proof.Laws.Length.set6E : Sys2Proof.Laws.Length.Statement .set6E := rfl
theorem Sys2Proof.Laws.Length.set6H : Sys2Proof.Laws.Length.Statement .set6H := rfl
theorem Sys2Proof.Laws.Length.set6L : Sys2Proof.Laws.Length.Statement .set6L := rfl
theorem Sys2Proof.Laws.Length.set6IndHl : Sys2Proof.Laws.Length.Statement .set6IndHl := rfl
theorem Sys2Proof.Laws.Length.set6A : Sys2Proof.Laws.Length.Statement .set6A := rfl
theorem Sys2Proof.Laws.Length.set7B : Sys2Proof.Laws.Length.Statement .set7B := rfl
theorem Sys2Proof.Laws.Length.set7C : Sys2Proof.Laws.Length.Statement .set7C := rfl
theorem Sys2Proof.Laws.Length.set7D : Sys2Proof.Laws.Length.Statement .set7D := rfl
theorem Sys2Proof.Laws.Length.set7E : Sys2Proof.Laws.Length.Statement .set7E := rfl
theorem Sys2Proof.Laws.Length.set7H : Sys2Proof.Laws.Length.Statement .set7H := rfl
theorem Sys2Proof.Laws.Length.set7L : Sys2Proof.Laws.Length.Statement .set7L := rfl
theorem Sys2Proof.Laws.Length.set7IndHl : Sys2Proof.Laws.Length.Statement .set7IndHl := rfl
theorem Sys2Proof.Laws.Length.set7A : Sys2Proof.Laws.Length.Statement .set7A := rfl
end

