-- ==== Sys2Proof/Tests/Slice0.lean ====
section
/-! SUPPORT. Tests: the ill-formed term, the decoding of every row of the opcode table, vectors of 95_test_vectors.md (the
number V<n> or S<n> is in the name), and for every statement with hypotheses a concrete state and operands that meet them. -/

namespace Sys2Proof.Tests

open Sys2Proof Sys2Proof.Machine Sys2Proof.Spec

-- many small theorems: checked one after another, not each in a thread of its own
set_option Elab.async false

/-! ### Well-formedness -/

/-- The one ill-formed term: the prefix with its second byte, which is one of the extended instructions (R142). -/
theorem test_prefixCb_refused : (Instr.prefixCb 0x00).wellFormed = false ∧ (Instr.prefixCb 0xFF).wellFormed = false := by decide

theorem test_extended_wellFormed : Instr.rlcB.wellFormed = true ∧ (Instr.jpNn 0xFFFF).wellFormed = true := by decide

/-! ### Decoding: every value of the opcode byte and of the byte after the prefix, from the column "match" of
spec/opcode_table.json, with the operand bytes 0x34 0x12 -/

/-- The instructions of 16 consecutive opcode bytes. -/
def primary (first : Nat) : List Instr := (List.range 16).map fun k => decode (BitVec.ofNat 8 (first + k)) 0x34 0x12

/-- The instructions of 16 consecutive bytes after the prefix. -/
def extended (first : Nat) : List Instr := (List.range 16).map fun k => decode 0xCB (BitVec.ofNat 8 (first + k)) 0x12

theorem test_primary_0 : primary 0x00 =
    [.nop, .ldBcNn 0x1234, .ldIndBcA, .incBc, .incB, .decB, .ldBN 0x34, .rlca,
     .ldIndNnSp 0x1234, .addHlBc, .ldAIndBc, .decBc, .incC, .decC, .ldCN 0x34, .rrca] := by decide +kernel

theorem test_primary_1 : primary 0x10 =
    [.stop, .ldDeNn 0x1234, .ldIndDeA, .incDe, .incD, .decD, .ldDN 0x34, .rla,
     .jrE 0x34, .addHlDe, .ldAIndDe, .decDe, .incE, .decE, .ldEN 0x34, .rra] := by decide +kernel

theorem test_primary_2 : primary 0x20 =
    [.jrNzE 0x34, .ldHlNn 0x1234, .ldIndHliA, .incHl, .incH, .decH, .ldHN 0x34, .daa,
     .jrZE 0x34, .addHlHl, .ldAIndHli, .decHl, .incL, .decL, .ldLN 0x34, .cpl] := by decide +kernel

theorem test_primary_3 : primary 0x30 =
    [.jrNcE 0x34, .ldSpNn 0x1234, .ldIndHldA, .incSp, .incIndHl, .decIndHl, .ldIndHlN 0x34, .scf,
     .jrCE 0x34, .addHlSp, .ldAIndHld, .decSp, .incA, .decA, .ldAN 0x34, .ccf] := by decide +kernel

theorem test_primary_4 : primary 0x40 =
    [.ldBB, .ldBC, .ldBD, .ldBE, .ldBH, .ldBL, .ldBIndHl, .ldBA,
     .ldCB, .ldCC, .ldCD, .ldCE, .ldCH, .ldCL, .ldCIndHl, .ldCA] := by decide +kernel

theorem test_primary_5 : primary 0x50 =
    [.ldDB, .ldDC, .ldDD, .ldDE, .ldDH, .ldDL, .ldDIndHl, .ldDA,
     .ldEB, .ldEC, .ldED, .ldEE, .ldEH, .ldEL, .ldEIndHl, .ldEA] := by decide +kernel

theorem test_primary_6 : primary 0x60 =
    [.ldHB, .ldHC, .ldHD, .ldHE, .ldHH, .ldHL, .ldHIndHl, .ldHA,
     .ldLB, .ldLC, .ldLD, .ldLE, .ldLH, .ldLL, .ldLIndHl, .ldLA] := by decide +kernel

theorem test_primary_7 : primary 0x70 =
    [.ldIndHlB, .ldIndHlC, .ldIndHlD, .ldIndHlE, .ldIndHlH, .ldIndHlL, .halt, .ldIndHlA,
     .ldAB, .ldAC, .ldAD, .ldAE, .ldAH, .ldAL, .ldAIndHl, .ldAA] := by decide +kernel

theorem test_primary_8 : primary 0x80 =
    [.addAB, .addAC, .addAD, .addAE, .addAH, .addAL, .addAIndHl, .addAA,
     .adcAB, .adcAC, .adcAD, .adcAE, .adcAH, .adcAL, .adcAIndHl, .adcAA] := by decide +kernel

theorem test_primary_9 : primary 0x90 =
    [.subB, .subC, .subD, .subE, .subH, .subL, .subIndHl, .subA,
     .sbcAB, .sbcAC, .sbcAD, .sbcAE, .sbcAH, .sbcAL, .sbcAIndHl, .sbcAA] := by decide +kernel

theorem test_primary_A : primary 0xA0 =
    [.andB, .andC, .andD, .andE, .andH, .andL, .andIndHl, .andA,
     .xorB, .xorC, .xorD, .xorE, .xorH, .xorL, .xorIndHl, .xorA] := by decide +kernel

theorem test_primary_B : primary 0xB0 =
    [.orB, .orC, .orD, .orE, .orH, .orL, .orIndHl, .orA,
     .cpB, .cpC, .cpD, .cpE, .cpH, .cpL, .cpIndHl, .cpA] := by decide +kernel

theorem test_primary_C : primary 0xC0 =
    [.retNz, .popBc, .jpNzNn 0x1234, .jpNn 0x1234, .callNzNn 0x1234, .pushBc, .addAN 0x34, .rst00,
     .retZ, .ret, .jpZNn 0x1234, .swapH, .callZNn 0x1234, .callNn 0x1234, .adcAN 0x34, .rst08] := by decide +kernel

theorem test_primary_D : primary 0xD0 =
    [.retNc, .popDe, .jpNcNn 0x1234, .illegalD3, .callNcNn 0x1234, .pushDe, .subN 0x34, .rst10,
     .retC, .reti, .jpCNn 0x1234, .illegalDB, .callCNn 0x1234, .illegalDD, .sbcAN 0x34, .rst18] := by decide +kernel

theorem test_primary_E : primary 0xE0 =
    [.ldhIndNA 0x34, .popHl, .ldhIndCA, .illegalE3, .illegalE4, .pushHl, .andN 0x34, .rst20,
     .addSpE 0x34, .jpHl, .ldIndNnA 0x1234, .illegalEB, .illegalEC, .illegalED, .xorN 0x34, .rst28] := by decide +kernel

theorem test_primary_F : primary 0xF0 =
    [.ldhAIndN 0x34, .popAf, .ldhAIndC, .di, .illegalF4, .pushAf, .orN 0x34, .rst30,
     .ldHlSpE 0x34, .ldSpHl, .ldAIndNn 0x1234, .ei, .illegalFC, .illegalFD, .cpN 0x34, .rst38] := by decide +kernel

theorem test_extended_0 : extended 0x00 =
    [.rlcB, .rlcC, .rlcD, .rlcE, .rlcH, .rlcL, .rlcIndHl, .rlcA,
     .rrcB, .rrcC, .rrcD, .rrcE, .rrcH, .rrcL, .rrcIndHl, .rrcA] := by decide +kernel

theorem test_extended_1 : extended 0x10 =
    [.rlB, .rlC, .rlD, .rlE, .rlH, .rlL, .rlIndHl, .rlA,
     .rrB, .rrC, .rrD, .rrE, .rrH, .rrL, .rrIndHl, .rrA] := by decide +kernel

theorem test_extended_2 : extended 0x20 =
    [.slaB, .slaC, .slaD, .slaE, .slaH, .slaL, .slaIndHl, .slaA,
     .sraB, .sraC, .sraD, .sraE, .sraH, .sraL, .sraIndHl, .sraA] := by decide +kernel

theorem test_extended_3 : extended 0x30 =
    [.swapB, .swapC, .swapD, .swapE, .swapH, .swapL, .swapIndHl, .swapA,
     .srlB, .srlC, .srlD, .srlE, .srlH, .srlL, .srlIndHl, .srlA] := by decide +kernel

theorem test_extended_4 : extended 0x40 =
    [.bit0B, .bit0C, .bit0D, .bit0E, .bit0H, .bit0L, .bit0IndHl, .bit0A,
     .bit1B, .bit1C, .bit1D, .bit1E, .bit1H, .bit1L, .bit1IndHl, .bit1A] := by decide +kernel

theorem test_extended_5 : extended 0x50 =
    [.bit2B, .bit2C, .bit2D, .bit2E, .bit2H, .bit2L, .bit2IndHl, .bit2A,
     .bit3B, .bit3C, .bit3D, .bit3E, .bit3H, .bit3L, .bit3IndHl, .bit3A] := by decide +kernel

theorem test_extended_6 : extended 0x60 =
    [.bit4B, .bit4C, .bit4D, .bit4E, .bit4H, .bit4L, .bit4IndHl, .bit4A,
     .bit5B, .bit5C, .bit5D, .bit5E, .bit5H, .bit5L, .bit5IndHl, .bit5A] := by decide +kernel

theorem test_extended_7 : extended 0x70 =
    [.bit6B, .bit6C, .bit6D, .bit6E, .bit6H, .bit6L, .bit6IndHl, .bit6A,
     .bit7B, .bit7C, .bit7D, .bit7E, .bit7H, .bit7L, .bit7IndHl, .bit7A] := by decide +kernel

theorem test_extended_8 : extended 0x80 =
    [.res0B, .res0C, .res0D, .res0E, .res0H, .res0L, .res0IndHl, .res0A,
     .res1B, .res1C, .res1D, .res1E, .res1H, .res1L, .res1IndHl, .res1A] := by decide +kernel

theorem test_extended_9 : extended 0x90 =
    [.res2B, .res2C, .res2D, .res2E, .res2H, .res2L, .res2IndHl, .res2A,
     .res3B, .res3C, .res3D, .res3E, .res3H, .res3L, .res3IndHl, .res3A] := by decide +kernel

theorem test_extended_A : extended 0xA0 =
    [.res4B, .res4C, .res4D, .res4E, .res4H, .res4L, .res4IndHl, .res4A,
     .res5B, .res5C, .res5D, .res5E, .res5H, .res5L, .res5IndHl, .res5A] := by decide +kernel

theorem test_extended_B : extended 0xB0 =
    [.res6B, .res6C, .res6D, .res6E, .res6H, .res6L, .res6IndHl, .res6A,
     .res7B, .res7C, .res7D, .res7E, .res7H, .res7L, .res7IndHl, .res7A] := by decide +kernel

theorem test_extended_C : extended 0xC0 =
    [.set0B, .set0C, .set0D, .set0E, .set0H, .set0L, .set0IndHl, .set0A,
     .set1B, .set1C, .set1D, .set1E, .set1H, .set1L, .set1IndHl, .set1A] := by decide +kernel

theorem test_extended_D : extended 0xD0 =
    [.set2B, .set2C, .set2D, .set2E, .set2H, .set2L, .set2IndHl, .set2A,
     .set3B, .set3C, .set3D, .set3E, .set3H, .set3L, .set3IndHl, .set3A] := by decide +kernel

theorem test_extended_E : extended 0xE0 =
    [.set4B, .set4C, .set4D, .set4E, .set4H, .set4L, .set4IndHl, .set4A,
     .set5B, .set5C, .set5D, .set5E, .set5H, .set5L, .set5IndHl, .set5A] := by decide +kernel

theorem test_extended_F : extended 0xF0 =
    [.set6B, .set6C, .set6D, .set6E, .set6H, .set6L, .set6IndHl, .set6A,
     .set7B, .set7C, .set7D, .set7E, .set7H, .set7L, .set7IndHl, .set7A] := by decide +kernel

/-! One instruction of every family, bit by bit from the patterns of R132, R143, R144. -/

theorem test_bits_ld_r_r : decodeBytes [0b01001010] = .ok (.ldCD, []) := by rfl
theorem test_bits_ld_r_n : decodeBytes [0b00101110, 0x80] = .ok (.ldLN 0x80, []) := by rfl
theorem test_bits_ld_ind_nn_a : decodeBytes [0b11101010, 0x00, 0xC1] = .ok (.ldIndNnA 0xC100, []) := by rfl
theorem test_bits_ld_rr_nn : decodeBytes [0b00110001, 0xFE, 0xFF] = .ok (.ldSpNn 0xFFFE, []) := by rfl
theorem test_bits_push : decodeBytes [0b11010101] = .ok (.pushDe, []) := by rfl
theorem test_bits_alu_r : decodeBytes [0b10110001] = .ok (.orC, []) := by rfl
theorem test_bits_alu_n : decodeBytes [0b11111110, 0x3C] = .ok (.cpN 0x3C, []) := by rfl
theorem test_bits_inc_ind_hl : decodeBytes [0b00110100] = .ok (.incIndHl, []) := by rfl
theorem test_bits_add_hl_rr : decodeBytes [0b00101001] = .ok (.addHlHl, []) := by rfl
theorem test_bits_daa : decodeBytes [0b00100111] = .ok (.daa, []) := by rfl
theorem test_bits_jr_cc : decodeBytes [0b00111000, 0xFE] = .ok (.jrCE 0xFE, []) := by rfl
theorem test_bits_rst : decodeBytes [0b11101111] = .ok (.rst28, []) := by rfl
theorem test_bits_halt : decodeBytes [0b01110110] = .ok (.halt, []) := by rfl
theorem test_bits_illegal : decodeBytes [0b11011101] = .ok (.illegalDD, []) := by rfl
theorem test_bits_rotate : decodeBytes [0b11001011, 0b00011110] = .ok (.rrIndHl, []) := by rfl
theorem test_bits_bit : decodeBytes [0b11001011, 0b01000111] = .ok (.bit0A, []) := by rfl
theorem test_bits_res : decodeBytes [0b11001011, 0b10111110] = .ok (.res7IndHl, []) := by rfl
theorem test_bits_set : decodeBytes [0b11001011, 0b11011000] = .ok (.set3B, []) := by rfl

theorem test_truncated : decodeBytes [] = .error .truncated ∧ decodeBytes [0xCB] = .error .truncated ∧
    decodeBytes [0xCD, 0x00] = .error .truncated := ⟨rfl, rfl, rfl⟩

/-- A 16-bit table word is an extended row, the prefix in bits 15 to 8; a 24-bit one counts from its first byte. -/
theorem test_tableWord : decodeTableWord 16 0xCB7C = some .bit7H ∧ decodeTableWord 16 0x4206 = some (.ldBN 0x42) ∧
    decodeTableWord 8 0x3E = some (.ldAN 0x00) ∧ decodeTableWord 24 0x1234C3 = some (.jpNn 0x1234) := by decide +kernel

/-! ### Vectors -/

/-- The baseline of 95_test_vectors.md section 2. -/
def base : State :=
  { State.reset with a := 0, f := 0, b := 0, c := 0, d := 0, e := 0, h := 0xC0, l := 0, sp := 0xDFF0 }

/-- `s` with bytes placed at an address and PC there. -/
def running (s : State) (addr : Word) (bytes : List Byte) : State := { s with pc := addr }.placeAll addr bytes

/-- One step ends in a next state of which `p` holds. -/
def after (s : State) (p : State → Bool) : Bool :=
  match step s with
  | .next t => p t
  | .fault _ => false
  | .refused _ => false

theorem test_v2_ld_d_hl :
    after (running (State.place base 0xC000 0x77) 0x0100 [0x56])
      (fun t => t.f == 0x00 && t.de == 0x7700 && t.pc == 0x0101 && t.cycles == 8) = true := by decide +kernel
theorem test_v3_ld_hl_e :
    after (running { base with e := 0x99 } 0x0100 [0x73])
      (fun t => t.f == 0x00 && t.pc == 0x0101 && t.busByte 0xC000 == some 0x99 && t.cycles == 8) = true := by decide +kernel
theorem test_v6_ld_hl_n :
    after (running base 0x0100 [0x36, 0xAB])
      (fun t => t.f == 0x00 && t.pc == 0x0102 && t.busByte 0xC000 == some 0xAB && t.cycles == 12) = true := by decide +kernel
theorem test_v10_ld_nn_a :
    after (running { base with a := 0x5D } 0x0100 [0xEA, 0x00, 0xE0])
      (fun t => t.f == 0x00 && t.pc == 0x0103 && t.busByte 0xC000 == some 0x5D && t.busByte 0xE000 == some 0x5D && t.cycles == 16) = true := by decide +kernel
theorem test_v13_ldh_c_a_ie :
    after (running { base with a := 0x1F, c := 0xFF } 0x0100 [0xE2])
      (fun t => t.f == 0x00 && t.pc == 0x0101 && t.ienable == 0x1F && t.cycles == 8) = true := by decide +kernel
theorem test_v14_ldh_a_c_if :
    after (running { base with c := 0x0F, iflag := 0xE5 } 0x0100 [0xF2])
      (fun t => t.a == 0xE5 && t.f == 0x00 && t.pc == 0x0101 && t.cycles == 8) = true := by decide +kernel
theorem test_v15_ld_hl_a_wrap :
    after (running { base with a := 0x11, h := 0xFF, l := 0xFF } 0x0100 [0x22])
      (fun t => t.f == 0x00 && t.hl == 0x0000 && t.pc == 0x0101 && t.ienable == 0x11 && t.cycles == 8) = true := by decide +kernel
theorem test_v16_ld_a_hl_wrap :
    after (running { base with h := 0x00, l := 0x00 } 0x0100 [0x3A])
      (fun t => t.f == 0x00 && t.hl == 0xFFFF && t.pc == 0x0101 && t.cycles == 8) = true := by decide +kernel
theorem test_v12_ldh_a_n_unmapped :
    after (running base 0x0100 [0xF0, 0x03])
      (fun t => t.a == 0xFF && t.f == 0x00 && t.pc == 0x0102 && t.cycles == 12) = true := by decide +kernel
theorem test_v23_ld_hl_nn :
    after (running base 0x0100 [0x21, 0x34, 0x12])
      (fun t => t.f == 0x00 && t.hl == 0x1234 && t.pc == 0x0103 && t.cycles == 12) = true := by decide +kernel
theorem test_v25_ld_nn_sp :
    after (running base 0x0100 [0x08, 0x00, 0xC1])
      (fun t => t.f == 0x00 && t.pc == 0x0103 && t.busByte 0xC100 == some 0xF0 && t.busByte 0xC101 == some 0xDF && t.cycles == 20) = true := by decide +kernel
theorem test_v26_ld_sp_hl :
    after (running { base with h := 0xDF, l := 0xF0, sp := 0x0000 } 0x0100 [0xF9])
      (fun t => t.f == 0x00 && t.sp == 0xDFF0 && t.pc == 0x0101 && t.cycles == 4) = true := by decide +kernel
theorem test_v27_ld_hl_sp_e_a :
    after (running { base with sp := 0xFFF8 } 0x0100 [0xF8, 0x08])
      (fun t => t.f == 0x30 && t.hl == 0x0000 && t.pc == 0x0102 && t.cycles == 8) = true := by decide +kernel
theorem test_v29_ld_hl_sp_e_c :
    after (running { base with sp := 0x0100 } 0x0100 [0xF8, 0x80])
      (fun t => t.f == 0x00 && t.hl == 0x0080 && t.pc == 0x0102 && t.cycles == 8) = true := by decide +kernel
theorem test_v30_push_bc :
    after (running { base with b := 0x12, c := 0x34 } 0x0100 [0xC5])
      (fun t => t.f == 0x00 && t.sp == 0xDFEE && t.pc == 0x0101 && t.busByte 0xDFEE == some 0x34 && t.busByte 0xDFEF == some 0x12 && t.cycles == 16) = true := by decide +kernel
theorem test_v32_pop_af :
    after (running (State.place (State.place { base with sp := 0xDFEE } 0xDFEE 0xFF) 0xDFEF 0x12) 0x0100 [0xF1])
      (fun t => t.a == 0x12 && t.f == 0xF0 && t.sp == 0xDFF0 && t.pc == 0x0101 && t.cycles == 16) = true := by decide +kernel
theorem test_v34_push_wrap_sp_0001 :
    after (running { base with h := 0xA5, l := 0x5A, sp := 0x0001 } 0x0100 [0xE5])
      (fun t => t.f == 0x00 && t.sp == 0xFFFF && t.pc == 0x0101 && t.ienable == 0x5A && t.cycles == 16) = true := by decide +kernel
theorem test_v38_pop_bc_wrap_sp_ffff :
    after (running { base with sp := 0xFFFF, ienable := 0x1F } 0x0100 [0xC1])
      (fun t => t.f == 0x00 && t.bc == 0x001F && t.sp == 0x0001 && t.pc == 0x0101 && t.cycles == 16) = true := by decide +kernel
theorem test_v40_add_a_hl :
    after (running (State.place { base with a := 0x0F } 0xC000 0x01) 0x0100 [0x86])
      (fun t => t.a == 0x10 && t.f == 0x20 && t.pc == 0x0101 && t.cycles == 8) = true := by decide +kernel
theorem test_v41_add_a_n :
    after (running { base with a := 0x80 } 0x0100 [0xC6, 0x80])
      (fun t => t.a == 0x00 && t.f == 0x90 && t.pc == 0x0102 && t.cycles == 8) = true := by decide +kernel
theorem test_v43_adc_a_c :
    after (running { base with a := 0xFF, f := 0x10 } 0x0100 [0x89])
      (fun t => t.a == 0x00 && t.f == 0xB0 && t.pc == 0x0101 && t.cycles == 4) = true := by decide +kernel
theorem test_v46_adc_a_n_cin_only_h :
    after (running { base with a := 0x0F, f := 0x10 } 0x0100 [0xCE, 0x00])
      (fun t => t.a == 0x10 && t.f == 0x20 && t.pc == 0x0102 && t.cycles == 8) = true := by decide +kernel
theorem test_v48_sub_hl :
    after (running (State.place base 0xC000 0x01) 0x0100 [0x96])
      (fun t => t.a == 0xFF && t.f == 0x70 && t.pc == 0x0101 && t.cycles == 8) = true := by decide +kernel
theorem test_v50_sbc_a_b :
    after (running { base with f := 0x10 } 0x0100 [0x98])
      (fun t => t.a == 0xFF && t.f == 0x70 && t.pc == 0x0101 && t.cycles == 4) = true := by decide +kernel
theorem test_v54_sbc_a_a_c_1 :
    after (running { base with a := 0x37, f := 0x10 } 0x0100 [0x9F])
      (fun t => t.a == 0xFF && t.f == 0x70 && t.pc == 0x0101 && t.cycles == 4) = true := by decide +kernel
theorem test_v56_and_hl :
    after (running (State.place { base with a := 0xFF } 0xC000 0x81) 0x0100 [0xA6])
      (fun t => t.a == 0x81 && t.f == 0x20 && t.pc == 0x0101 && t.cycles == 8) = true := by decide +kernel
theorem test_v63_or_n :
    after (running { base with a := 0x80, f := 0xF0 } 0x0100 [0xF6, 0x01])
      (fun t => t.a == 0x81 && t.f == 0x00 && t.pc == 0x0102 && t.cycles == 8) = true := by decide +kernel
theorem test_v60_xor_n :
    after (running { base with a := 0x55 } 0x0100 [0xEE, 0xFF])
      (fun t => t.a == 0xAA && t.f == 0x00 && t.pc == 0x0102 && t.cycles == 8) = true := by decide +kernel
theorem test_v65_cp_hl_lt :
    after (running (State.place { base with a := 0x3C } 0xC000 0x40) 0x0100 [0xBE])
      (fun t => t.f == 0x50 && t.pc == 0x0101 && t.cycles == 8) = true := by decide +kernel
theorem test_v67_inc_b :
    after (running { base with f := 0x10, b := 0xFF, c := 0x00 } 0x0100 [0x04])
      (fun t => t.f == 0xB0 && t.bc == 0x0000 && t.pc == 0x0101 && t.cycles == 4) = true := by decide +kernel
theorem test_v70_dec_b_00 :
    after (running { base with f := 0x10 } 0x0100 [0x05])
      (fun t => t.f == 0x70 && t.bc == 0xFF00 && t.pc == 0x0101 && t.cycles == 4) = true := by decide +kernel
theorem test_v71_dec_hl :
    after (running (State.place base 0xC000 0x00) 0x0100 [0x35])
      (fun t => t.f == 0x60 && t.pc == 0x0101 && t.busByte 0xC000 == some 0xFF && t.cycles == 12) = true := by decide +kernel
theorem test_v72_add_hl_bc :
    after (running { base with b := 0x06, c := 0x05, h := 0x8A, l := 0x23 } 0x0100 [0x09])
      (fun t => t.f == 0x20 && t.hl == 0x9028 && t.pc == 0x0101 && t.cycles == 4) = true := by decide +kernel
theorem test_v74_add_hl_sp_z_kept :
    after (running { base with f := 0xC0, h := 0xFF, l := 0xFF, sp := 0x0001 } 0x0100 [0x39])
      (fun t => t.f == 0xB0 && t.hl == 0x0000 && t.pc == 0x0101 && t.cycles == 4) = true := by decide +kernel
theorem test_v76_dec_bc :
    after (running { base with f := 0x80 } 0x0100 [0x0B])
      (fun t => t.f == 0x80 && t.bc == 0xFFFF && t.pc == 0x0101 && t.cycles == 4) = true := by decide +kernel
theorem test_v82_inc_hl_wrap :
    after (running { base with f := 0xF0, h := 0xFF, l := 0xFF } 0x0100 [0x23])
      (fun t => t.f == 0xF0 && t.hl == 0x0000 && t.pc == 0x0101 && t.cycles == 4) = true := by decide +kernel
theorem test_v79_add_sp_e_c :
    after (running { base with sp := 0x0000 } 0x0100 [0xE8, 0xFF])
      (fun t => t.f == 0x00 && t.sp == 0xFFFF && t.pc == 0x0102 && t.cycles == 8) = true := by decide +kernel
theorem test_v85_nop_reset_state :
    after (running State.reset 0x0100 [0x00])
      (fun t => t.f == 0xB0 && t.pc == 0x0101 && t.cycles == 4) = true := by decide +kernel
theorem test_v87_rlca_zero :
    after (running { base with f := 0xF0 } 0x0100 [0x07])
      (fun t => t.f == 0x00 && t.pc == 0x0101 && t.cycles == 4) = true := by decide +kernel
theorem test_v90_rra :
    after (running { base with a := 0x01, f := 0x10 } 0x0100 [0x1F])
      (fun t => t.a == 0x80 && t.f == 0x10 && t.pc == 0x0101 && t.cycles == 4) = true := by decide +kernel
theorem test_v93_daa_c :
    after (running { base with a := 0x9A } 0x0100 [0x27])
      (fun t => t.a == 0x00 && t.f == 0x90 && t.pc == 0x0101 && t.cycles == 4) = true := by decide +kernel
theorem test_v95_daa_e :
    after (running { base with a := 0xFF, f := 0x70 } 0x0100 [0x27])
      (fun t => t.a == 0x99 && t.f == 0x50 && t.pc == 0x0101 && t.cycles == 4) = true := by decide +kernel
theorem test_v100_cpl :
    after (running { base with a := 0x35, f := 0x80 } 0x0100 [0x2F])
      (fun t => t.a == 0xCA && t.f == 0xE0 && t.pc == 0x0101 && t.cycles == 4) = true := by decide +kernel
theorem test_v101_scf :
    after (running { base with f := 0xE0 } 0x0100 [0x37])
      (fun t => t.f == 0x90 && t.pc == 0x0101 && t.cycles == 4) = true := by decide +kernel
theorem test_v102_ccf :
    after (running { base with f := 0xF0 } 0x0100 [0x3F])
      (fun t => t.f == 0x80 && t.pc == 0x0101 && t.cycles == 4) = true := by decide +kernel
theorem test_v104_jp_nn :
    after (running base 0x0100 [0xC3, 0x50, 0x01])
      (fun t => t.f == 0x00 && t.pc == 0x0150 && t.cycles == 16) = true := by decide +kernel
theorem test_v106_jp_nz_n :
    after (running { base with f := 0x80 } 0x0100 [0xC2, 0x50, 0x01])
      (fun t => t.f == 0x80 && t.pc == 0x0103 && t.cycles == 12) = true := by decide +kernel
theorem test_v107_jp_hl :
    after (running base 0x0100 [0xE9])
      (fun t => t.f == 0x00 && t.pc == 0xC000 && t.cycles == 8) = true := by decide +kernel
theorem test_v110_jr_nz_t :
    after (running base 0x0105 [0x20, 0xFB])
      (fun t => t.f == 0x00 && t.pc == 0x0102 && t.cycles == 12) = true := by decide +kernel
theorem test_v111_jr_nz_n :
    after (running { base with f := 0x80 } 0x0105 [0x20, 0xFB])
      (fun t => t.f == 0x80 && t.pc == 0x0107 && t.cycles == 8) = true := by decide +kernel
theorem test_v112_jr_wrap :
    after (running base 0x0010 [0x18, 0x80])
      (fun t => t.f == 0x00 && t.pc == 0xFF92 && t.cycles == 12) = true := by decide +kernel
theorem test_v113_call_nn :
    after (running { base with sp := 0xFFFE } 0x0100 [0xCD, 0x00, 0x02])
      (fun t => t.f == 0x00 && t.sp == 0xFFFC && t.pc == 0x0200 && t.busByte 0xFFFC == some 0x03 && t.busByte 0xFFFD == some 0x01 && t.cycles == 24) = true := by decide +kernel
theorem test_v114_call_c_n :
    after (running { base with sp := 0xFFFE } 0x0100 [0xDC, 0x00, 0x02])
      (fun t => t.f == 0x00 && t.pc == 0x0103 && t.cycles == 12) = true := by decide +kernel
theorem test_v116_ret :
    after (running (State.place (State.place { base with sp := 0xFFFC } 0xFFFC 0x03) 0xFFFD 0x01) 0x0100 [0xC9])
      (fun t => t.f == 0x00 && t.sp == 0xFFFE && t.pc == 0x0103 && t.cycles == 16) = true := by decide +kernel
theorem test_v118_ret_z_n :
    after (running (State.place (State.place { base with sp := 0xFFFC } 0xFFFC 0x03) 0xFFFD 0x01) 0x0100 [0xC8])
      (fun t => t.f == 0x00 && t.pc == 0x0101 && t.cycles == 4) = true := by decide +kernel
theorem test_v119_reti :
    after (running (State.place (State.place { base with sp := 0xFFFC } 0xFFFC 0x03) 0xFFFD 0x01) 0x0100 [0xD9])
      (fun t => t.f == 0x00 && t.sp == 0xFFFE && t.pc == 0x0103 && t.ime && t.cycles == 16) = true := by decide +kernel
theorem test_v135_rst_38 :
    after (running base 0x7FFF [0xFF])
      (fun t => t.f == 0x00 && t.sp == 0xDFEE && t.pc == 0x0038 && t.busByte 0xDFEE == some 0x00 && t.busByte 0xDFEF == some 0x80 && t.cycles == 16) = true := by decide +kernel
theorem test_v141_di :
    after (running { base with ime := true, iflag := 0x01, ienable := 0x01 } 0x0100 [0xF3])
      (fun t => t.f == 0x00 && t.pc == 0x0101 && !t.ime && t.cycles == 4) = true := by decide +kernel
theorem test_v143_ei_none :
    after (running base 0x0100 [0xFB])
      (fun t => t.f == 0x00 && t.pc == 0x0101 && t.ime && t.cycles == 4) = true := by decide +kernel
theorem test_v154_rlc_hl :
    after (running (State.place base 0xC000 0x80) 0x0100 [0xCB, 0x06])
      (fun t => t.f == 0x10 && t.pc == 0x0102 && t.busByte 0xC000 == some 0x01 && t.cycles == 16) = true := by decide +kernel
theorem test_v156_rrc_c :
    after (running { base with b := 0x00, c := 0x01 } 0x0100 [0xCB, 0x09])
      (fun t => t.f == 0x10 && t.bc == 0x0080 && t.pc == 0x0102 && t.cycles == 8) = true := by decide +kernel
theorem test_v159_rl_hl :
    after (running (State.place { base with f := 0x10 } 0xC000 0x11) 0x0100 [0xCB, 0x16])
      (fun t => t.f == 0x00 && t.pc == 0x0102 && t.busByte 0xC000 == some 0x23 && t.cycles == 16) = true := by decide +kernel
theorem test_v160_rr_e :
    after (running { base with d := 0x00, e := 0x01 } 0x0100 [0xCB, 0x1B])
      (fun t => t.f == 0x90 && t.de == 0x0000 && t.pc == 0x0102 && t.cycles == 8) = true := by decide +kernel
theorem test_v163_sla_hl :
    after (running (State.place base 0xC000 0xFF) 0x0100 [0xCB, 0x26])
      (fun t => t.f == 0x10 && t.pc == 0x0102 && t.busByte 0xC000 == some 0xFE && t.cycles == 16) = true := by decide +kernel
theorem test_v164_sra_l :
    after (running { base with h := 0xC0, l := 0x8A } 0x0100 [0xCB, 0x2D])
      (fun t => t.f == 0x00 && t.hl == 0xC0C5 && t.pc == 0x0102 && t.cycles == 8) = true := by decide +kernel
theorem test_v166_swap_a :
    after (running { base with a := 0xF0 } 0x0100 [0xCB, 0x37])
      (fun t => t.a == 0x0F && t.f == 0x00 && t.pc == 0x0102 && t.cycles == 8) = true := by decide +kernel
theorem test_v168_srl_a :
    after (running { base with a := 0x01 } 0x0100 [0xCB, 0x3F])
      (fun t => t.a == 0x00 && t.f == 0x90 && t.pc == 0x0102 && t.cycles == 8) = true := by decide +kernel
theorem test_v170_bit_7_h :
    after (running { base with f := 0x10, h := 0x80, l := 0x00 } 0x0100 [0xCB, 0x7C])
      (fun t => t.f == 0x30 && t.pc == 0x0102 && t.cycles == 8) = true := by decide +kernel
theorem test_v171_bit_0_hl :
    after (running (State.place base 0xC000 0xFE) 0x0100 [0xCB, 0x46])
      (fun t => t.f == 0xA0 && t.pc == 0x0102 && t.cycles == 12) = true := by decide +kernel
theorem test_v173_res_7_hl :
    after (running (State.place base 0xC000 0xFF) 0x0100 [0xCB, 0xBE])
      (fun t => t.f == 0x00 && t.pc == 0x0102 && t.busByte 0xC000 == some 0x7F && t.cycles == 16) = true := by decide +kernel
theorem test_v176_cb_cb_set_1_e :
    after (running base 0x0100 [0xCB, 0xCB])
      (fun t => t.f == 0x00 && t.de == 0x0002 && t.pc == 0x0102 && t.cycles == 8) = true := by decide +kernel
theorem test_v178_echo_last_address_fdff :
    after (running (State.place base 0xDDFF 0x77) 0x0100 [0xFA, 0xFF, 0xFD])
      (fun t => t.a == 0x77 && t.f == 0x00 && t.pc == 0x0103 && t.cycles == 16) = true := by decide +kernel
theorem test_v182_cartridge_ram_disabled_read :
    after (running { base with ramSize := 0x2000 } 0x0100 [0xFA, 0x00, 0xA0])
      (fun t => t.a == 0xFF && t.f == 0x00 && t.pc == 0x0103 && t.cycles == 16) = true := by decide +kernel

/-- V140, V144: one report, nothing else. -/
theorem test_v140_v144_reports :
    after (running base 0x0150 [0x10]) (fun t => t.reports == [.stopExecuted 0x0150] && t.pc == 0x0151) = true ∧
    after (running base 0x0150 [0xD3]) (fun t => t.reports == [.illegalOpcode 0xD3 0x0150] && t.pc == 0x0151) = true := by
  decide +kernel

/-- V138: halted with IME = 0 and a pending request: 4 cycles, still halted. -/
theorem test_v138_halted_without_ime :
    after { base with halted := true, pc := 0x0201, iflag := 0x04, ienable := 0x04 }
      (fun t => t.halted && t.pc == 0x0201 && t.cycles == 4) = true := by decide +kernel

/-- V145, S7: with bits 0 and 1 requested and enabled, bit 0 is dispatched and bit 1 stays. -/
theorem test_v145_priority :
    (match interruptPart { base with ime := true, pc := 0x0101, iflag := 0x03, ienable := 0x03, cycles := 4 } with
    | .next t => t.pc == 0x0040 && t.sp == 0xDFEE && !t.ime && t.busByte 0xDFEE == some 0x01 &&
        t.busByte 0xDFEF == some 0x01 && t.cycles == 24
    | .fault _ => false
    | .refused _ => false) = true := by decide +kernel

/-- V147: bits 5 to 7 never dispatch. -/
theorem test_v147_high_bits : pendingSource { base with iflag := 0xE0, ienable := 0xFF } = none := by decide

/-- V148: the byte 0x00 written to 0xFF46 ends the run. -/
theorem test_v148_dma_bad : routerWrite 0xFF46 0x00 base = .fault (.dmaSource 0x00) := rfl

/-- V149: a legal DMA hands 160 bytes to the object-attribute memory, here the first of them. -/
theorem test_v149_dma_ok :
    (match routerWrite 0xFF46 0xC0 (State.place base 0xC000 0x5A) with
    | .next t => t.deviceEvents.length == 160 && t.deviceEvents.head? == some (.write .video 0xFE00 0x5A)
    | .fault _ => false
    | .refused _ => false) = true := by decide +kernel

/-- A processor whose bank controller holds the given fields. -/
def banked (hi : BitVec 2) (lo : BitVec 5) (mode : Bool) (banks : Nat) : State :=
  { base with bankHi := hi, bankLo := lo, bankMode := mode, romBanks := banks }

/-- S4, the rows of its table. -/
theorem test_s4_banks :
    effectiveRomBank (banked 0 0x00 false 128) = 0x01 ∧ effectiveRomBank (banked 1 0x00 false 128) = 0x21 ∧
    effectiveRomBank (banked 3 0x00 false 128) = 0x61 ∧ effectiveRomBank (banked 1 0x00 false 2) = 0x01 ∧
    effectiveRomBank (banked 0 0x02 false 2) = 0x00 ∧ effectiveRomBank (banked 1 0x00 true 128) = 0x01 ∧
    effectiveRomBank (banked 3 0x05 true 128) = 0x05 ∧ effectiveRomBank (banked 3 0x05 false 64) = 0x25 ∧
    effectiveRomBank (banked 0 0x10 false 16) = 0x00 ∧ effectiveRamBank (banked 3 0x05 true 128) = 3 ∧
    effectiveRamBank (banked 3 0x05 false 128) = 0 := by decide

/-- A file of a given length, all zero but for the listed bytes. -/
def file (length : Nat) (bytes : List (Nat × Byte)) : List Byte :=
  bytes.foldl (fun l x => l.set x.1 x.2) (List.replicate length 0x00)

/-- What the load procedure says of a file: bank count and RAM size, or the failure. -/
def loaded (bytes : List Byte) : Except LoadFault (Nat × Nat) :=
  (loadCartridge (some bytes)).map fun c => (c.romBanks, c.ramSize)

/-- The answer is this failure. -/
def failsWith (r : Except LoadFault (Nat × Nat)) (x : LoadFault) : Bool :=
  match r with
  | .ok _ => false
  | .error y => x == y

/-- The answer is these sizes. -/
def loadsWith (r : Except LoadFault (Nat × Nat)) (banks size : Nat) : Bool :=
  match r with
  | .ok x => x == (banks, size)
  | .error _ => false

/-- S6: the load outcomes. -/
theorem test_s6_load :
    loadsWith (loaded (file 0x0150 [(0x014D, 0xE7)])) 2 0 = true ∧
    loadsWith (loaded (file 0x0150 [(0x0134, 0x01), (0x014D, 0xE6)])) 2 0 = true ∧
    loadsWith (loaded (file 0x0150 [(0x0149, 0x02), (0x014D, 0xE5)])) 2 0x2000 = true ∧
    failsWith (loaded (file 0x0150 [(0x0134, 0x01), (0x014D, 0xE7)])) (.headerChecksum 0xE6 0xE7) = true ∧
    failsWith (loaded (file 0x0150 [(0x0149, 0x06), (0x014D, 0xE1)])) (.ramSizeCode 0x06) = true ∧
    failsWith (loaded (file 0x014F [])) (.romSize 0x014F) = true := by decide +kernel

/-- S6: 0x8001 bytes make 4 banks, 0x20000 make 8. -/
theorem test_s6_banks : romBanksFor 0x0150 = 2 ∧ romBanksFor 0x8000 = 2 ∧ romBanksFor 0x8001 = 4 ∧ romBanksFor 0x20000 = 8 := by
  decide +kernel

/-- The machine of `withFetchWord` runs the word as the first instruction after reset. -/
theorem test_withFetchWord :
    after (State.reset.withFetchWord 16 0x4206) (fun t => t.b == 0x42 && t.pc == 0x0102 && t.cycles == 8) = true ∧
    after (State.reset.withFetchWord 16 0xCB37) (fun t => t.a == 0x10 && t.f == 0x00 && t.pc == 0x0102) = true := by
  decide +kernel

/-! ### Witnesses: for each statement with hypotheses, a state and operands that meet them, clause by clause -/

theorem test_w01_wellFormed : (Instr.jpNn 0xFFFF).wellFormed = true ∧ Instr.nop.wellFormed = true := by decide

theorem test_w02_decodes : decodeBytes [0xCB, 0xFF, 0x11] = .ok (.set7A, [0x11]) ∧ decodeBytes [0x00] = .ok (.nop, []) :=
  ⟨rfl, rfl⟩

theorem test_w03_not_prefix : (0xCA : Byte) ≠ 0xCB ∧ (0xCC : Byte) ≠ 0xCB := by decide

theorem test_w05_lengths : decodeBytes [0x01, 0x00] = .error .truncated ∧
    decodeBytes [0x01, 0x00, 0x00] = .ok (.ldBcNn 0x0000, []) ∧ decodeBytes [0x06, 0x00] = .ok (.ldBN 0x00, []) :=
  ⟨rfl, rfl, rfl⟩

theorem test_w09_boots : ∃ s, boot (some (file 0x0150 [(0x014D, 0xE7)])) (some [0x11]) = .ok s := by
  have h : (boot (some (file 0x0150 [(0x014D, 0xE7)])) (some [0x11])).toOption.isSome = true := by decide +kernel
  revert h
  cases boot (some (file 0x0150 [(0x014D, 0xE7)])) (some [0x11]) with
  | ok s => exact fun _ => ⟨s, rfl⟩
  | error e => exact fun h => nomatch h

/-- The checksum the load procedure computes for a file. -/
def sumOf (bytes : List Byte) : Byte := headerChecksum (Memory.ofBytes 0 bytes)

/-- The clauses of the load statement: too short by one byte, a wrong checksum, the first code without a size, the last
code with one. -/
theorem test_w10_clauses :
    (file 0x014F []).length < 0x0150 ∧
    (0x0150 ≤ (file 0x0150 []).length ∧ sumOf (file 0x0150 []) ≠ (file 0x0150 []).getD 0x014D 0x00) ∧
    (0x0150 ≤ (file 0x0150 [(0x0149, 0x06), (0x014D, 0xE1)]).length ∧
      sumOf (file 0x0150 [(0x0149, 0x06), (0x014D, 0xE1)]) = (file 0x0150 [(0x0149, 0x06), (0x014D, 0xE1)]).getD 0x014D 0x00) ∧
    (0x0150 ≤ (file 0x0150 [(0x0149, 0x05), (0x014D, 0xE2)]).length ∧
      sumOf (file 0x0150 [(0x0149, 0x05), (0x014D, 0xE2)]) = (file 0x0150 [(0x0149, 0x05), (0x014D, 0xE2)]).getD 0x014D 0x00) := by
  decide +kernel

theorem test_w13_windows : within 0xC000 0xC000 0xDFFF ∧ within 0xDFFF 0xC000 0xDFFF ∧ within 0xE000 0xE000 0xFDFF ∧
    within 0xFDFF 0xE000 0xFDFF ∧ within 0xFF80 0xFF80 0xFFFE ∧ within 0xFFFE 0xFF80 0xFFFE ∧
    (0xFF0F : Word).toNat = 0xFF0F ∧ (0xFFFF : Word).toNat = 0xFFFF := by unfold within; decide

theorem test_w13_unmapped : unmapped 0xFEA0 ∧ unmapped 0xFEFF ∧ unmapped 0xFF01 ∧ unmapped 0xFF03 ∧ unmapped 0xFF08 := by
  unfold unmapped within; decide

theorem test_w13_unmapped_high : unmapped 0xFF0E ∧ unmapped 0xFF10 ∧ unmapped 0xFF3F ∧ unmapped 0xFF4C ∧ unmapped 0xFF7F := by
  unfold unmapped within; decide

theorem test_w13_mapped : ¬unmapped 0xFF0F ∧ ¬unmapped 0xFF00 ∧ ¬unmapped 0xFF04 ∧ ¬unmapped 0xFF46 ∧ ¬unmapped 0xFE9F := by
  unfold unmapped within; decide

/-- External RAM armed and present. -/
def armed : State := { base with ramEnable := true, ramSize := 0x2000 }

theorem test_w14_windows : within 0x0000 0x0000 0x3FFF ∧ within 0x3FFF 0x0000 0x3FFF ∧ within 0x4000 0x4000 0x7FFF ∧
    within 0x7FFF 0x4000 0x7FFF ∧ within 0xA000 0xA000 0xBFFF ∧ within 0xBFFF 0xA000 0xBFFF ∧
    base.ramEnable = false ∧ base.ramSize = 0 ∧ armed.ramEnable = true ∧ armed.ramSize ≠ 0 := by unfold within; decide

theorem test_w15_windows : within 0x0000 0x0000 0x1FFF ∧ within 0x1FFF 0x0000 0x1FFF ∧ within 0x2000 0x2000 0x3FFF ∧
    within 0x3FFF 0x2000 0x3FFF ∧ within 0x4000 0x4000 0x5FFF ∧ within 0x5FFF 0x4000 0x5FFF ∧ within 0x6000 0x6000 0x7FFF ∧
    within 0x7FFF 0x6000 0x7FFF := by unfold within; decide

theorem test_w16_sizes : legalSizes (banked 0 0 false 2) ∧ legalSizes { banked 1 0 false 128 with ramSize := 0x20000 } ∧
    within 0x4000 0x4000 0x7FFF ∧ within 0x7FFF 0x4000 0x7FFF :=
  ⟨⟨⟨0, rfl⟩, by decide⟩, ⟨⟨6, rfl⟩, by decide⟩, by unfold within; decide, by unfold within; decide⟩

theorem test_w17_windows : ownedBy .video 0x8000 ∧ ownedBy .video 0x9FFF ∧ ownedBy .video 0xFE00 ∧ ownedBy .video 0xFE9F ∧
    ownedBy .video 0xFF40 ∧ ownedBy .video 0xFF4B ∧ ownedBy .timer 0xFF04 ∧ ownedBy .timer 0xFF07 ∧ ownedBy .joypad 0xFF00 ∧
    (0xFF45 : Word) ≠ 0xFF46 ∧ (0xFF47 : Word) ≠ 0xFF46 := by unfold ownedBy within; decide

theorem test_w18_sources : (0x7F : Byte).toNat < 0x80 ∧ 0xDF < (0xE0 : Byte).toNat ∧ 0xA0 ≤ (0xA0 : Byte).toNat ∧
    (0xDF : Byte).toNat ≤ 0xDF ∧ 0x80 ≤ (0x80 : Byte).toNat ∧ (0x9F : Byte).toNat < 0xA0 := by decide

theorem test_w19_invariant : base.Inv := ⟨by decide, ⟨⟨0, rfl⟩, by decide⟩, rfl, rfl, rfl, rfl⟩

theorem test_w20_write : base.Inv ∧ ∃ t, routerWrite 0xFDFF 0x5A base = .next t ∧ cellOf t 0xDDFF = some (.wram 0x1DFF) :=
  ⟨test_w19_invariant, _, rfl, by decide +kernel⟩

theorem test_w21_arrays : Memory.wf [(0, 0x01), (0x1FFF, 0xFF)] 0x2000 = true ∧ Memory.wf [] 0 = true := by decide

/-! The forms of O23 to O44, every clause. -/

theorem test_w23_forms : Instr.ldBC.opForm = .ld8 (.reg .b) (.reg .c) ∧ Instr.ldAA.opForm = .ld8 (.reg .a) (.reg .a) ∧
    (Instr.ldAN 0xFF).opForm = .ld8n (.reg .a) 0xFF := ⟨rfl, rfl, rfl⟩

theorem test_w24_forms : Instr.ldBIndHl.opForm = .ld8 (.reg .b) .atHl ∧ Instr.ldAIndBc.opForm = .loadA .bc ∧
    (Instr.ldhAIndN 0xFF).opForm = .loadA (.high 0xFF) ∧ Instr.ldAIndHld.opForm = .loadA .hlDec := ⟨rfl, rfl, rfl, rfl⟩

theorem test_w25_forms : Instr.ldIndHlB.opForm = .ld8 .atHl (.reg .b) ∧ (Instr.ldIndHlN 0xFF).opForm = .ld8n .atHl 0xFF ∧
    (Instr.ldIndNnA 0xFFFF).opForm = .storeA (.abs 0xFFFF) := ⟨rfl, rfl, rfl⟩

/-- The store that ends the run, and its neighbours that do not. -/
theorem test_w25_dma : badDma 0xFF46 0x7F ∧ badDma 0xFF46 0xE0 ∧ ¬badDma 0xFF46 0x80 ∧ ¬badDma 0xFF46 0xDF ∧
    ¬badDma 0xFF45 0x00 ∧ ¬badDma 0xFF47 0x00 := by unfold badDma; decide

theorem test_w26_forms : (Instr.ldSpNn 0xFFFF).opForm = .ld16 .sp 0xFFFF ∧ Instr.ldSpHl.opForm = .ldSpHl ∧
    (Instr.ldHlSpE 0x80).opForm = .ldHlSpE 0x80 ∧ (Instr.addSpE 0x7F).opForm = .addSpE 0x7F := ⟨rfl, rfl, rfl, rfl⟩

/-- A word whose low byte, and one whose high byte alone, falls on the DMA register with an illegal value. -/
theorem test_w27_forms : (Instr.ldIndNnSp 0xFF46).opForm = .storeSp 0xFF46 ∧ Instr.pushAf.opForm = .push .af ∧
    badDma 0xFF46 (loByte 0xC07F) ∧ ¬badDma 0xFF45 (loByte 0xE000) ∧ badDma (0xFF45 + 1) (hiByte 0xE000) ∧
    ¬badDma 0xFF46 (loByte 0xC0C0) ∧ ¬badDma (0xFF46 + 1) (hiByte 0xC0C0) := by
  refine ⟨rfl, rfl, ?_⟩; unfold badDma; decide

theorem test_w28_forms : Instr.popAf.opForm = .pop .af ∧ Instr.popBc.opForm = .pop .bc := ⟨rfl, rfl⟩

theorem test_w29_forms : Instr.addAB.opForm = .alu .add (.reg .b) ∧ Instr.adcAIndHl.opForm = .alu .adc .atHl ∧
    (Instr.adcAN 0xFF).opForm = .aluN .adc 0xFF ∧ Instr.addAIndHl.opForm = .alu .add .atHl ∧ (Instr.addAN 0).opForm = .aluN .add 0 :=
  ⟨rfl, rfl, rfl, rfl, rfl⟩

theorem test_w30_forms : Instr.subA.opForm = .alu .sub (.reg .a) ∧ Instr.sbcAIndHl.opForm = .alu .sbc .atHl ∧
    (Instr.cpN 0xFF).opForm = .aluN .cp 0xFF ∧ Instr.cpIndHl.opForm = .alu .cp .atHl := ⟨rfl, rfl, rfl, rfl⟩

theorem test_w31_forms : Instr.andL.opForm = .alu .and (.reg .l) ∧ Instr.xorIndHl.opForm = .alu .xor .atHl ∧
    (Instr.orN 0xFF).opForm = .aluN .or 0xFF := ⟨rfl, rfl, rfl⟩

theorem test_w32_forms : Instr.incB.opForm = .inc8 (.reg .b) ∧ Instr.incIndHl.opForm = .inc8 .atHl ∧
    Instr.decA.opForm = .dec8 (.reg .a) ∧ Instr.decIndHl.opForm = .dec8 .atHl := ⟨rfl, rfl, rfl, rfl⟩

theorem test_w33_forms : Instr.addHlSp.opForm = .addHl .sp ∧ Instr.incSp.opForm = .inc16 .sp ∧ Instr.decBc.opForm = .dec16 .bc :=
  ⟨rfl, rfl, rfl⟩

theorem test_w34_forms : Instr.rlca.opForm = .rotA .rlc ∧ Instr.rra.opForm = .rotA .rr := ⟨rfl, rfl⟩

theorem test_w36_digits : isBcd { base with a := 0x99 }.a ∧ isBcd 0x00 ∧ isBcd 0x99 ∧ ¬isBcd 0x9A := by unfold isBcd; decide

theorem test_w37_forms : (Instr.jpNn 0xFFFF).opForm = .jp 0xFFFF ∧ (Instr.jpCNn 0).opForm = .jpCc .c 0 ∧
    Instr.jpHl.opForm = .jpHl ∧ (Instr.jrE 0x80).opForm = .jr 0x80 ∧ (Instr.jrNzE 0x7F).opForm = .jrCc .nz 0x7F :=
  ⟨rfl, rfl, rfl, rfl, rfl⟩

theorem test_w37_conditions : holds .nz base ∧ ¬holds .z base ∧ holds .nc base ∧ ¬holds .c base ∧
    holds .z { base with f := 0x80 } ∧ holds .c { base with f := 0x10 } := by unfold holds; decide

theorem test_w38_forms : (Instr.callNn 0x0200).opForm = .call 0x0200 ∧ (Instr.callNcNn 0).opForm = .callCc .nc 0 ∧
    Instr.rst38.opForm = .rst 7 ∧ Instr.rst00.opForm = .rst 0 := ⟨rfl, rfl, rfl, rfl⟩

theorem test_w39_forms : Instr.ret.opForm = .ret ∧ Instr.reti.opForm = .reti ∧ Instr.retZ.opForm = .retCc .z := ⟨rfl, rfl, rfl⟩

theorem test_w41_forms : Instr.illegalD3.opForm = .illegal 0xD3 ∧ Instr.illegalFD.opForm = .illegal 0xFD ∧
    ∃ t, exec .stop base = .next t := ⟨rfl, rfl, _, rfl⟩

theorem test_w42_forms : Instr.rlcB.opForm = .rot .rlc (.reg .b) ∧ (Instr.prefixCb 0x1E).opForm = .rot .rr .atHl ∧
    Instr.rlA.opForm = .rot .rl (.reg .a) ∧ Instr.rrcIndHl.opForm = .rot .rrc .atHl :=
  ⟨rfl, by decide +kernel, rfl, rfl⟩

theorem test_w43_forms : Instr.slaB.opForm = .rot .sla (.reg .b) ∧ Instr.sraIndHl.opForm = .rot .sra .atHl ∧
    Instr.swapA.opForm = .rot .swap (.reg .a) ∧ Instr.srlIndHl.opForm = .rot .srl .atHl := ⟨rfl, rfl, rfl, rfl⟩

theorem test_w44_forms : Instr.bit7A.opForm = .bit 7 (.reg .a) ∧ Instr.bit0IndHl.opForm = .bit 0 .atHl ∧
    Instr.res7IndHl.opForm = .res 7 .atHl ∧ Instr.set0B.opForm = .set 0 (.reg .b) := ⟨rfl, rfl, rfl, rfl⟩

/-! Frames, step, interrupts. -/

/-- The outcome is a next state. -/
def goesOn (r : Result) : Bool :=
  match r with
  | .next _ => true
  | .fault _ => false
  | .refused _ => false

theorem exists_next {r : Result} (h : goesOn r = true) : ∃ t, r = .next t := by
  cases r with
  | next t => exact ⟨t, rfl⟩
  | fault x => exact nomatch h
  | refused x => exact nomatch h

theorem test_w45_frame : (∃ t, exec .incB base = .next t) ∧ RegName.c ∉ writtenRegs Instr.incB.opForm :=
  ⟨exists_next (by decide +kernel), by decide⟩

theorem test_w46_frame : ∃ t, exec .popAf base = .next t := exists_next (by decide +kernel)

theorem test_w47_frame : storedTo Instr.cpIndHl.opForm base = [] ∧ (∃ t, exec .cpIndHl base = .next t) ∧
    storedTo (Instr.callZNn 0).opForm base = [] ∧ ∃ t, exec (.callZNn 0) base = .next t := 
  ⟨rfl, exists_next (by decide +kernel), by decide +kernel, exists_next (by decide +kernel)⟩

theorem w48_stored : storedTo Instr.pushBc.opForm base = [0xDFEE, 0xDFEF] := by
  have f : Instr.pushBc.opForm = .push .bc := rfl
  rw [f]
  show [base.sp - 2, base.sp - 1] = _
  decide +kernel

theorem w48_next : ∃ t, exec .pushBc base = .next t := exists_next (by decide +kernel)

theorem w48_high : ∀ addr ∈ [(0xDFEE : Word), 0xDFEF], 0x8000 ≤ addr.toNat := by
  rw [List.forall_mem_cons, List.forall_mem_singleton]
  decide

theorem w48_cells : writtenCell base 0xDFEE = some (.wram 0x1FEE) ∧ writtenCell base 0xDFEF = some (.wram 0x1FEF) ∧
    cellOf base 0xDFED = some (.wram 0x1FED) := by decide +kernel

theorem w48_other : ∀ addr ∈ [(0xDFEE : Word), 0xDFEF], writtenCell base addr ≠ some (.wram 0x1FED) := by
  rw [List.forall_mem_cons, List.forall_mem_singleton, w48_cells.1, w48_cells.2.1]
  decide

theorem test_w48_frame : (∃ t, exec .pushBc base = .next t) ∧
    (∀ addr ∈ storedTo Instr.pushBc.opForm base, 0x8000 ≤ addr.toNat) ∧
    (∀ addr ∈ storedTo Instr.pushBc.opForm base, writtenCell base addr ≠ some (.wram 0x1FED)) ∧
    (∀ addr ∈ storedTo Instr.pushBc.opForm base, writtenCell base addr ≠ cellOf base 0xDFED) := by
  rw [w48_stored, w48_cells.2.2]
  exact ⟨w48_next, w48_high, w48_other, w48_other⟩

theorem test_w49_fetch : (running base 0x0100 [0xCD, 0x00, 0x02]).halted = false ∧ (Instr.callNn 0x0200).wellFormed = true ∧
    ∀ k, k < (encode (.callNn 0x0200)).length →
      (running base 0x0100 [0xCD, 0x00, 0x02]).busByte (0x0100 + BitVec.ofNat 16 k) = (encode (.callNn 0x0200))[k]? := by
  decide +kernel

/-- Halted, with the request of source 3 pending: no peripheral drives bit 3, so this holds for every value of the free
requests. -/
def sleeping : State := { base with halted := true, ime := true, iflag := 0x08, ienable := 0x08 }

theorem test_w50_halted : ({ base with halted := true } : State).halted = true ∧ ({ base with halted := true } : State).ime = false :=
  ⟨rfl, rfl⟩

theorem pending_deviceDone (s : State) (h : s.iflag = 0x08) (h' : s.ienable = 0x08) : pending (deviceDone s) = 0x08 := by
  have e : ∀ x : Byte, (0x08 ||| (x &&& requestMask)) &&& 0x08 &&& 0x1F = (0x08 : Byte) := forall_byte (by decide +kernel)
  show (s.iflag ||| (Config.deviceRequests s.updates &&& requestMask)) &&& s.ienable &&& 0x1F = 0x08
  rw [h, h']
  exact e _

theorem lowest_bit3 : isLowest 0x08 3 := ⟨by decide, by decide⟩

/-- The dispatch premises: IME set, source 3 the lowest pending one, an ordinary stack. -/
theorem test_w53_dispatch : (deviceDone sleeping).ime = true ∧ isLowest (pending (deviceDone sleeping)) 3 ∧
    ¬badDma ((deviceDone sleeping).sp - 2) (loByte (deviceDone sleeping).pc) ∧
    ¬badDma ((deviceDone sleeping).sp - 1) (hiByte (deviceDone sleeping).pc) := by
  rw [pending_deviceDone sleeping rfl rfl]
  refine ⟨rfl, lowest_bit3, ?_⟩
  unfold badDma
  decide +kernel

/-- The two ways a dispatch ends the run: the low byte, or the high byte alone, lands on the DMA register. -/
theorem test_w53_stops : badDma ((0xFF48 : Word) - 2) (loByte 0x0100) ∧ ¬badDma ((0xFF47 : Word) - 2) (loByte 0x0100) ∧
    badDma ((0xFF47 : Word) - 1) (hiByte 0x0100) := by unfold badDma; decide

/-- The halted state does end: a step from `sleeping` dispatches. -/
theorem test_w51_wakes : sleeping.halted = true ∧ pending sleeping ≠ 0 ∧ ∃ t, step sleeping = .next t ∧ t.halted = false := by
  refine ⟨rfl, by decide, ?_⟩
  have b : ∀ k, k < 3 → pendingBit (deviceDone { started sleeping with tick := 4 }) k = false := by
    intro k hk
    have : (0x08 : Byte).getLsbD k = false := by
      rcases k with _ | _ | _ | k
      · rfl
      · rfl
      · rfl
      · omega
    show ((0x08 : Byte).getLsbD k && _) = false
    rw [this, Bool.false_and]
  have b3 : pendingBit (deviceDone { started sleeping with tick := 4 }) 3 = true := by
    have e : ∀ x : Byte, (0x08 ||| (x &&& requestMask) : Byte).getLsbD 3 = true := forall_byte (by decide +kernel)
    exact e _
  have p : pendingSource (deviceDone { started sleeping with tick := 4 }) = some 3 := by
    unfold pendingSource
    rw [b 0 (by decide), b 1 (by decide), b 2 (by decide), b3]
    rfl
  have h : step sleeping = interruptPart (deviceDone { started sleeping with tick := 4 }) := rfl
  have i : (deviceDone { started sleeping with tick := 4 }).ime = true := rfl
  rw [h]
  unfold interruptPart
  rw [if_pos i, p]
  exact ⟨_, rfl, rfl⟩

theorem test_w52_quiet : (deviceDone base).ime = false ∧ pending (deviceDone { base with ime := true }) = 0 := by
  refine ⟨rfl, ?_⟩
  have e : ∀ x : Byte, x &&& 0x00 &&& 0x1F = (0 : Byte) := forall_byte (by decide +kernel)
  exact e _

theorem test_w54_sources : pendingSource { base with iflag := 0x10, ienable := 0x1F } = some 4 ∧
    pendingSource { base with iflag := 0xFF, ienable := 0xFF } = some 0 ∧ pendingSource base = none := by decide

/-- A run that stops: LD (HL),n with HL = 0xFF46 and an illegal byte. -/
theorem test_w55_stops : exec (.ldIndHlN 0x7F) { base with h := 0xFF, l := 0x46 } = .fault (.dmaSource 0x7F) ∧
    step (running { base with h := 0xFF, l := 0x46 } 0x0100 [0x36, 0x7F]) = .fault (.dmaSource 0x7F) := ⟨rfl, rfl⟩

theorem test_w56_runs : (∃ t, exec .ret (fetched .ret base) = .next t) ∧ ∃ t, step base = .next t := 
  ⟨exists_next (by decide +kernel), exists_next (by decide +kernel)⟩

theorem test_w58_w59_runs : base.Inv ∧ ∃ t, step base = .next t := ⟨test_w19_invariant, exists_next (by decide +kernel)⟩

theorem test_w60_runs : (∃ t, exec .ei base = .next t) ∧ ∃ t, step base = .next t :=
  ⟨exists_next (by decide), exists_next (by decide +kernel)⟩

/-! ### The other value of `EI_DELAY` (U8) -/

/-- EI sets the hidden bit and not IME; DI cancels it. -/
theorem test_ei_delayed :
    (enableUnder 1 base).ime = false ∧ (enableUnder 1 base).eiPending = true ∧
    (disableUnder 1 (enableUnder 1 base)).eiPending = false := by decide

/-- IME is set at the end of the next step's instruction part, not of the same one, and not after DI. -/
theorem test_ei_delay_settles :
    let s := enableUnder 1 base
    (settleEnable 1 false s).ime = false ∧ (settleEnable 1 true s).ime = true ∧ (settleEnable 1 true s).eiPending = false ∧
    (settleEnable 1 true (disableUnder 1 s)).ime = false := by decide

end Sys2Proof.Tests
end

section
/-! The hidden bit of `EI_DELAY` = 1 under the spec's value 0 (10_state.md R39; 92_eei_decisions.md D5). -/

namespace Sys2Proof.Machine

open Sys2Proof.Spec

/-- Where the run answers a next state, the pending-enable bit is that of `s`. -/
def KeepsPending (s : State) (r : Result) : Prop := ∀ t, r = .next t → t.eiPending = s.eiPending

/-! ### Composition -/

theorem keepsPending_next {s t : State} (h : t.eiPending = s.eiPending) : KeepsPending s (.next t) := by
  intro u hu
  cases hu
  exact h

theorem KeepsPending.pre {s u : State} {r : Result} (h : u.eiPending = s.eiPending) (k : KeepsPending u r) :
    KeepsPending s r := fun t ht => (k t ht).trans h

theorem KeepsPending.andThen {s : State} {r : Result} {k : State → Result} (h : KeepsPending s r)
    (hk : ∀ u, KeepsPending u (k u)) : KeepsPending s (andThen r k) := by
  intro t ht
  obtain ⟨u, hr, hu⟩ := andThen_eq_next.mp ht
  exact (hk u t hu).trans (h u hr)

/-- A conditional instruction: the operation, or nothing. -/
theorem KeepsPending.ite {s : State} {r : Result} (h : KeepsPending s r) (b : Bool) :
    KeepsPending s (if b then r else .next s) := by
  cases b
  · exact keepsPending_next rfl
  · exact h

/-! ### The shared operations -/

@[simp] theorem stepHL_eiPending (m : AddrMode) (s : State) : (stepHL m s).eiPending = s.eiPending := by
  cases m <;> rfl

@[simp] theorem accumulate_eiPending (o : AluOp) (v : Byte) (s : State) :
    (accumulate o v s).eiPending = s.eiPending := by
  cases o <;> rfl

@[simp] theorem fetchInstr_eiPending (s : State) : (fetchInstr s).2.eiPending = s.eiPending := by
  unfold fetchInstr
  dsimp only
  split <;> simp

theorem memWrite_keepsPending (addr : Word) (v : Byte) (s : State) : KeepsPending s (memWrite addr v s) :=
  fun _ h => (memWrite_frame h).1.eiPending

theorem memWrite16_keepsPending (addr v : Word) (s : State) : KeepsPending s (memWrite16 addr v s) :=
  fun _ h => (memWrite16_frame h).1.eiPending

theorem push16_keepsPending (v : Word) (s : State) : KeepsPending s (push16 v s) :=
  fun _ h => (push16_frame h).1.eiPending

theorem writeOperand_keepsPending (x : Operand8) (v : Byte) (s : State) : KeepsPending s (writeOperand x v s) := by
  cases x with
  | reg r => exact keepsPending_next (by simp)
  | atHl => exact memWrite_keepsPending s.hl v s

/-- Read an operand, then write one. -/
theorem modifyOperand_keepsPending (x y : Operand8) (v : Byte) (s : State) :
    KeepsPending s (writeOperand x v (readOperand y s).2) :=
  (writeOperand_keepsPending x v _).pre (readOperand_eiPending y s)

/-- Read an operand, write one, then set the flags. -/
theorem modifyOperand_setF_keepsPending (x y : Operand8) (v f : Byte) (s : State) :
    KeepsPending s (andThen (writeOperand x v (readOperand y s).2) fun t => .next (t.setF f)) :=
  (modifyOperand_keepsPending x y v s).andThen fun u => keepsPending_next (State.setF_eiPending f u)

theorem jumpTo_keepsPending (nn : Word) (s : State) : KeepsPending s (jumpTo nn s) := keepsPending_next rfl

theorem callTo_keepsPending (nn : Word) (s : State) : KeepsPending s (callTo nn s) :=
  (push16_keepsPending s.pc s).andThen (jumpTo_keepsPending nn)

theorem returnTo_keepsPending (s : State) : KeepsPending s (returnTo s) :=
  (jumpTo_keepsPending _ _).pre (pop16_eiPending s)

theorem loadA_keepsPending (m : AddrMode) (s : State) : KeepsPending s (loadA m s) := by
  rw [loadA_eq]
  exact keepsPending_next (by simp)

theorem popPair_keepsPending (q : StackPair) (s : State) : KeepsPending s (popPair q s) := by
  rw [popPair_eq]
  exact keepsPending_next (by simp)

theorem aluOperand_keepsPending (o : AluOp) (y : Operand8) (s : State) : KeepsPending s (aluOperand o y s) := by
  rw [aluOperand_eq]
  exact keepsPending_next (by simp)

theorem testBit_keepsPending (b : Fin 8) (x : Operand8) (s : State) : KeepsPending s (testBit b x s) := by
  rw [testBit_eq]
  exact keepsPending_next (by simp)

/-! ### Instructions and steps -/

/-- No operation of a resolved form touches the bit: EI and DI act on IME at once. -/
theorem execForm_keepsPending (F : Form) (s : State) (hne : ∀ op2, F ≠ .cbByte op2) :
    KeepsPending s (execForm F s) := by
  cases F with
  | cbByte op2 => exact absurd rfl (hne op2)
  | ld8 x y => exact modifyOperand_keepsPending x y _ s
  | ld8n x n => exact writeOperand_keepsPending x n s
  | loadA m => exact loadA_keepsPending m s
  | storeA m => exact (memWrite_keepsPending _ _ s).andThen fun u => keepsPending_next (stepHL_eiPending m u)
  | ld16 p nn => exact keepsPending_next (State.setPair_eiPending p nn s)
  | inc16 p => exact keepsPending_next (State.setPair_eiPending p _ s)
  | dec16 p => exact keepsPending_next (State.setPair_eiPending p _ s)
  | storeSp nn => exact memWrite16_keepsPending nn s.sp s
  | push q => exact (push16_keepsPending _ s).andThen fun u => keepsPending_next (extraQuantum_eiPending u)
  | pop q => exact popPair_keepsPending q s
  | alu o y => exact aluOperand_keepsPending o y s
  | aluN o n => exact keepsPending_next (accumulate_eiPending o n s)
  | inc8 x => exact modifyOperand_setF_keepsPending x x _ _ s
  | dec8 x => exact modifyOperand_setF_keepsPending x x _ _ s
  | rot o x => exact modifyOperand_setF_keepsPending x x _ _ s
  | bit b x => exact testBit_keepsPending b x s
  | res b x => exact modifyOperand_keepsPending x x _ s
  | set b x => exact modifyOperand_keepsPending x x _ s
  | jpCc cc nn => exact (jumpTo_keepsPending nn s).ite (s.cond cc)
  | jrCc cc e => exact (jumpTo_keepsPending _ s).ite (s.cond cc)
  | call nn => exact callTo_keepsPending nn s
  | rst t => exact callTo_keepsPending _ s
  | callCc cc nn => exact (callTo_keepsPending nn s).ite (s.cond cc)
  | ret => exact returnTo_keepsPending s
  | retCc cc => exact (returnTo_keepsPending s).ite (s.cond cc)
  | reti => exact keepsPending_next (pop16_eiPending s)
  | ldSpHl | ldHlSpE | addSpE | addHl | nop | rotA | daa | cpl | scf | ccf | jp | jpHl | jr | halt | stop | di | ei
  | illegal => exact keepsPending_next rfl

theorem exec_keepsPending (i : Instr) (s : State) : KeepsPending s (exec i s) := by
  rw [exec_eq_opForm]
  exact execForm_keepsPending i.opForm s (opForm_ne_cbByte i)

theorem instructionPart_keepsPending (s : State) : KeepsPending s (instructionPart s) := by
  rw [instructionPart_eq]
  split
  · exact keepsPending_next (haltedPart_eiPending s)
  · exact (exec_keepsPending _ _).pre (fetchInstr_eiPending s)

theorem finishStep_keepsPending (s : State) : KeepsPending s (finishStep s) := by
  intro t ht
  rcases finishStep_cases ht with rfl | ⟨_, k, _, w, hw, rfl⟩
  · rfl
  · obtain ⟨_, _, hpending, _⟩ := dispatch_frame hw
    exact hpending

theorem step_keepsPending (s : State) : KeepsPending s (step s) :=
  ((instructionPart_keepsPending (beginStep s)).andThen finishStep_keepsPending).pre (beginStep_eiPending s)

/-- Settles O60: the bit is kept by every form, by the fetch, and by the device and interrupt parts of a step. -/
theorem noEnableIsLeftPending : Obligations.NoEnableIsLeftPending := by
  unfold Obligations.NoEnableIsLeftPending
  exact ⟨exec_keepsPending, step_keepsPending⟩

end Sys2Proof.Machine
end

section
/-! Register pairs as numbers (10_state.md R21, R22). -/

namespace Sys2Proof.Machine

open Sys2Proof.Spec

theorem joinBytes_toNat (hi lo : Byte) : (joinBytes hi lo).toNat = 256 * hi.toNat + lo.toNat := by
  rw [joinBytes, BitVec.toNat_append, ← Nat.shiftLeft_add_eq_or_of_lt lo.isLt, Nat.shiftLeft_eq, Nat.mul_comm]

theorem hiByte_eq_byte (v : Word) : hiByte v = byte (v.toNat / 256) := by
  apply BitVec.eq_of_toNat_eq
  simp [hiByte, byte, Nat.shiftRight_eq_div_pow]

theorem loByte_eq_byte (v : Word) : loByte v = byte v.toNat := by
  apply BitVec.eq_of_toNat_eq
  simp [loByte, byte]

theorem loByte_toNat (v : Word) : (loByte v).toNat = v.toNat % 256 := by
  rw [loByte_eq_byte, byte, BitVec.toNat_ofNat]

/-- The mask of F clears the low nibble. -/
theorem maskF_eq_byte (v : Byte) : maskF v = byte (v.toNat / 16 * 16) := by
  revert v
  exact forall_byte (by decide +kernel)

theorem maskF_toNat (v : Byte) : (maskF v).toNat = v.toNat / 16 * 16 := by
  have := v.isLt
  rw [maskF_eq_byte, byte, BitVec.toNat_ofNat]
  omega

/-- Settles O12: the two bytes of a word are its quotient and remainder by 256, and F is masked. -/
theorem pairsAreTwoRegisters : Obligations.PairsAreTwoRegisters := by
  unfold Obligations.PairsAreTwoRegisters
  intro s v
  have hF : maskF (loByte v) = byte (v.toNat % 256 / 16 * 16) := by
    rw [maskF_eq_byte, loByte_toNat]
  refine ⟨⟨joinBytes_toNat _ _, joinBytes_toNat _ _, joinBytes_toNat _ _, ?_⟩, ?_, ?_, ?_, ?_⟩
  · rw [State.af, joinBytes_toNat, State.readF, maskF_toNat]
  · rw [State.setBC, hiByte_eq_byte, loByte_eq_byte]
  · rw [State.setDE, hiByte_eq_byte, loByte_eq_byte]
  · rw [State.setHL, hiByte_eq_byte, loByte_eq_byte]
  · rw [State.setAF, hiByte_eq_byte, hF]

end Sys2Proof.Machine
end

section
/-! An instruction of a known form: its bytes, the state its effect begins in, and its one byte store (R28, R62, R72, R150). -/

namespace Sys2Proof.Machine

open Sys2Proof.Spec

/-! ### The form -/

theorem exec_of_opForm {i : Instr} {F : Form} (h : i.opForm = F) (s : State) : exec i s = execForm F s := by
  rw [exec_eq_opForm, h]

theorem encode_of_opForm {i : Instr} {F : Form} (h : i.opForm = F) : encode i = formBytes F := by
  rw [encode_eq_opForm, h]

/-! ### The fetched state -/

theorem fetched_pc {i : Instr} {code : List Byte} (h : encode i = code) (s : State) :
    (fetched i s).pc = s.pc + BitVec.ofNat 16 code.length := by
  subst h
  rfl

theorem fetched_tick {i : Instr} {code : List Byte} (h : encode i = code) (s : State) :
    (fetched i s).tick = s.tick + BitVec.ofNat 8 (4 * code.length) := by
  subst h
  rfl

@[simp] theorem fetched_reg (i : Instr) (s : State) (r : Reg8) : (fetched i s).reg r = s.reg r := by
  cases r <;> rfl

/-- A register write after the fetch: PC and `tick` are those of the fetch. -/
theorem setReg_fetched {i : Instr} {code : List Byte} (h : encode i = code) (r : Reg8) (v : Byte) (s : State) :
    (fetched i s).setReg r v = { s.setReg r v with
      pc := s.pc + BitVec.ofNat 16 code.length, tick := s.tick + BitVec.ofNat 8 (4 * code.length) } := by
  subst h
  cases r <;> rfl

/-! ### One byte store -/

theorem badDma_iff {addr : Word} {v : Byte} :
    badDma addr v ↔ regionOf addr = .dmaTrigger ∧ dmaSourceOk v = false := by
  rw [badDma, regionOf_eq_dmaTrigger, ← Bool.not_eq_true, dmaSourceOk_eq, Classical.not_not]

theorem memWrite_of_badDma {addr : Word} {v : Byte} (h : badDma addr v) (s : State) :
    memWrite addr v s = .fault (.dmaSource v) := by
  obtain ⟨hr, hv⟩ := badDma_iff.mp h
  exact routerWrite_eq_fault.mpr ⟨hr, hv, rfl⟩

theorem exists_memWrite_of_not_badDma {addr : Word} {v : Byte} (h : ¬badDma addr v) (s : State) :
    ∃ t, memWrite addr v s = .next t := by
  cases hw : memWrite addr v s with
  | next t => exact ⟨t, rfl⟩
  | fault x =>
    obtain ⟨hr, hv, _⟩ := routerWrite_eq_fault.mp hw
    exact absurd (badDma_iff.mpr ⟨hr, hv⟩) h
  | refused q => exact absurd hw routerWrite_ne_refused

/-- An instruction that runs as one byte write and then `k` stores that byte; `k` has to be `after` only in the states the
write can end in. -/
theorem storesByte_of_exec {i : Instr} {s : State} {code : List Byte} {base : State} {addr : Word} {v : Byte}
    {after : State → State} {k : State → Result} (henc : encode i = code)
    (hexec : exec i (fetched i s) = andThen (memWrite addr v base) k)
    (hk : ∀ t, memWrite addr v base = .next t → k t = .next (after t)) :
    storesByte i s code base addr v after := by
  refine ⟨henc, fun hlegal => ?_, fun hbad => ?_⟩
  · obtain ⟨t, ht⟩ := exists_memWrite_of_not_badDma hlegal base
    exact ⟨t, ht, by rw [hexec, ht, andThen_next, hk t ht]⟩
  · rw [hexec, memWrite_of_badDma hbad, andThen_fault]

/-- An instruction that runs as one byte write and nothing more. -/
theorem storesByte_of_exec_eq {i : Instr} {s : State} {code : List Byte} {base : State} {addr : Word} {v : Byte}
    (henc : encode i = code) (hexec : exec i (fetched i s) = memWrite addr v base) :
    storesByte i s code base addr v id := by
  refine storesByte_of_exec (k := .next) henc ?_ fun _ _ => rfl
  rw [hexec]
  cases memWrite addr v base <;> rfl

end Sys2Proof.Machine
end

section
/-! The 8-bit loads (40_load8.md R160 to R178). -/

namespace Sys2Proof.Machine

open Sys2Proof.Spec

/-! ### The address forms -/

/-- The high page: joining 0xFF before a byte adds 0xFF00 to it (R171 to R174). -/
theorem joinBytes_ff (v : Byte) : joinBytes 0xFF v = BitVec.ofNat 16 (0xFF00 + v.toNat) := by
  apply BitVec.eq_of_toNat_eq
  have hv := v.isLt
  have hff : (0xFF : Byte).toNat = 255 := rfl
  rw [joinBytes_toNat, hff, BitVec.toNat_ofNat]
  omega

theorem addressOf_eq_address (m : AddrMode) (s : State) : addressOf m s = address m s := by
  cases m with
  | highC => exact joinBytes_ff s.c
  | high n => exact joinBytes_ff n
  | _ => rfl

/-- The fetch moves no register an address is formed from. -/
theorem address_fetched (m : AddrMode) (i : Instr) (s : State) : address m (fetched i s) = address m s := by
  cases m <;> rfl

theorem hlAfter_fetched (m : AddrMode) (i : Instr) (s : State) : hlAfter m (fetched i s) = hlAfter m s := by
  cases m <;> rfl

/-- HL steps from its value in `s`, in every later state that has kept it. -/
theorem stepHL_eq {s t : State} (hh : t.h = s.h) (hl : t.l = s.l) (m : AddrMode) :
    stepHL m t = { t with h := hiByte (hlAfter m s), l := loByte (hlAfter m s) } := by
  cases m <;> simp [stepHL, hlAfter, State.setHL, State.hl, ← hh, ← hl]

/-- The read keeps HL, so the load steps it from its value before the read. -/
theorem loadA_eq_record (m : AddrMode) (s : State) :
    loadA m s = .next { (memRead (address m s) s).2 with
      a := (memRead (address m s) s).1, h := hiByte (hlAfter m s), l := loByte (hlAfter m s) } := by
  have hh : ((memRead (address m s) s).2.setReg .a (memRead (address m s) s).1).h = s.h := memRead_h _ s
  have hl : ((memRead (address m s) s).2.setReg .a (memRead (address m s) s).1).l = s.l := memRead_l _ s
  rw [loadA_eq, addressOf_eq_address, stepHL_eq hh hl]
  rfl

/-! ### Register from register or immediate -/

/-- Settles O23: the fetch moves no `r8` register, so the load copies the source of the state before it. -/
theorem registerLoadsCopyTheirSource : Obligations.RegisterLoadsCopyTheirSource := by
  unfold Obligations.RegisterLoadsCopyTheirSource
  refine ⟨fun i s dst r hform => ?_, fun i s dst n hform => ?_⟩
  · have henc := encode_of_opForm hform
    refine ⟨henc, ?_⟩
    calc exec i (fetched i s)
      _ = .next ((fetched i s).setReg dst ((fetched i s).reg r)) := exec_of_opForm hform _
      _ = _ := by rw [fetched_reg, setReg_fetched henc]; rfl
  · have henc := encode_of_opForm hform
    refine ⟨henc, ?_⟩
    calc exec i (fetched i s)
      _ = .next ((fetched i s).setReg dst n) := exec_of_opForm hform _
      _ = _ := by rw [setReg_fetched henc]; rfl

/-! ### Register from memory -/

/-- Settles O24: one read in the fetched state, at an address the fetch has not moved. -/
theorem loadsReadTheirAddress : Obligations.LoadsReadTheirAddress := by
  unfold Obligations.LoadsReadTheirAddress
  refine ⟨fun i s dst hform => ?_, fun i s m hform => ?_⟩
  · have henc := encode_of_opForm hform
    refine ⟨henc, ?_, ?_, exec_of_opForm hform _⟩
    · rw [memRead_pc, fetched_pc henc]; rfl
    · rw [memRead_tick, fetched_tick henc, BitVec.add_assoc]; rfl
  · have henc := encode_of_opForm hform
    refine ⟨henc, ?_, ?_, ?_⟩
    · rw [memRead_pc, fetched_pc henc]; rfl
    · rw [memRead_tick, fetched_tick henc, BitVec.add_assoc, BitVec.ofNat_add]; rfl
    · rw [exec_of_opForm hform, execForm, loadA_eq_record, address_fetched, hlAfter_fetched]

/-! ### Memory from register or immediate -/

/-- Settles O25: each store is one byte write in the fetched state; HL, which the write keeps, steps after it. -/
theorem byteStoresWriteTheirAddress : Obligations.ByteStoresWriteTheirAddress := by
  unfold Obligations.ByteStoresWriteTheirAddress
  refine ⟨fun i s r hform => ?_, fun i s n hform => ?_, fun i s m hform => ?_⟩
  · refine storesByte_of_exec_eq (encode_of_opForm hform) ?_
    calc exec i (fetched i s)
      _ = memWrite (joinBytes s.h s.l) ((fetched i s).reg r) (fetched i s) := exec_of_opForm hform _
      _ = _ := by rw [fetched_reg]
  · exact storesByte_of_exec_eq (encode_of_opForm hform) (exec_of_opForm hform _)
  · refine storesByte_of_exec (k := fun t => .next (stepHL m t)) (encode_of_opForm hform) ?_ fun t hwrite => ?_
    · rw [exec_of_opForm hform, execForm, storeA_eq, addressOf_eq_address, address_fetched]
      rfl
    · obtain ⟨hframe, _⟩ := memWrite_frame hwrite
      rw [stepHL_eq (s := s) hframe.h hframe.l]

end Sys2Proof.Machine
end

section
/-! The 16-bit loads of registers, the sums of SP and an offset, and POP (41_load16.md R180 to R187; 43_alu16.md R223, R224). -/

namespace Sys2Proof.Machine

open Sys2Proof.Spec

/-! ### Pair loads and offset sums -/

/-- A pair write after the fetch: PC and `tick` are those of the fetch. -/
theorem setPair_fetched {i : Instr} {code : List Byte} (h : encode i = code) (p : Pair) (v : Word) (s : State) :
    (fetched i s).setPair p v = { s.setPair p v with
      pc := s.pc + BitVec.ofNat 16 code.length, tick := s.tick + BitVec.ofNat 8 (4 * code.length) } := by
  subst h
  cases p <;> rfl

theorem setPair_setF (p : Pair) (v : Word) (f : Byte) (s : State) :
    (s.setF f).setPair p v = { s.setPair p v with f := maskF f } := by
  cases p <;> rfl

/-- F of an offset sum is made of flags, so a write of F keeps it whole (R22, R224). -/
theorem maskF_offsetSum (sp : Word) (e : Byte) : maskF (offsetSum sp e).2 = (offsetSum sp e).2 :=
  maskF_flags _ _ _ _

/-- A pair and F take an offset sum after the fetch. -/
theorem setF_setPair_addSpE_fetched {i : Instr} {code : List Byte} (h : encode i = code) (p : Pair) (sp : Word)
    (e : Byte) (s : State) :
    ((fetched i s).setF (addSpE sp e).2).setPair p (addSpE sp e).1 = { s.setPair p (offsetSum sp e).1 with
      f := (offsetSum sp e).2
      pc := s.pc + BitVec.ofNat 16 code.length, tick := s.tick + BitVec.ofNat 8 (4 * code.length) } := by
  rw [addSpE_eq, setPair_setF, setPair_fetched h, maskF_offsetSum]

/-- Settles O26: each form writes one pair after the fetch; the offset sums write F besides, which its mask leaves whole. -/
theorem pairLoadsAndOffsetSums : Obligations.PairLoadsAndOffsetSums := by
  unfold Obligations.PairLoadsAndOffsetSums
  refine ⟨fun i s p nn hform => ?_, fun i s hform => ?_, fun i s e hform => ?_, fun i s e hform => ?_⟩
  all_goals
    have henc := encode_of_opForm hform
    refine ⟨henc, ?_⟩
  · calc exec i (fetched i s)
      _ = .next ((fetched i s).setPair p nn) := exec_of_opForm hform _
      _ = _ := by rw [setPair_fetched henc]; rfl
  · calc exec i (fetched i s)
      _ = .next ((fetched i s).setPair .sp s.hl) := exec_of_opForm hform _
      _ = _ := by rw [setPair_fetched henc]; rfl
  · calc exec i (fetched i s)
      _ = .next (((fetched i s).setF (addSpE s.sp e).2).setPair .hl (addSpE s.sp e).1) := exec_of_opForm hform _
      _ = _ := by rw [setF_setPair_addSpE_fetched henc]; rfl
  · calc exec i (fetched i s)
      _ = .next (((fetched i s).setF (addSpE s.sp e).2).setPair .sp (addSpE s.sp e).1) := exec_of_opForm hform _
      _ = _ := by rw [setF_setPair_addSpE_fetched henc]; rfl

/-! ### POP -/

/-- `Pop16` as two byte reads, the low byte first (R75, R187, D14); neither read moves SP. -/
theorem pop16_eq (s : State) :
    pop16 s =
      (joinBytes (memRead (s.sp + 1) (memRead s.sp s).2).1 (memRead s.sp s).1,
        { (memRead (s.sp + 1) (memRead s.sp s).2).2 with sp := s.sp + 2 }) := by
  have hsp : (memRead (s.sp + 1) (memRead s.sp s).2).2.sp = s.sp := by rw [memRead_sp, memRead_sp]
  calc pop16 s
    _ = (joinBytes (memRead (s.sp + 1) (memRead s.sp s).2).1 (memRead s.sp s).1,
          (memRead (s.sp + 1) (memRead s.sp s).2).2.setSP ((memRead (s.sp + 1) (memRead s.sp s).2).2.sp + 2)) := rfl
    _ = _ := by rw [hsp, State.setSP]

/-- A pair of the `qq` map holds no part of SP, so a write of it and a move of SP do not meet. -/
theorem setStackPair_with_sp (q : StackPair) (v sp : Word) (s : State) :
    ({ s with sp := sp } : State).setStackPair q v = { s.setStackPair q v with sp := sp } := by
  cases q <;> rfl

/-- Settles O28: two reads in the fetched state, whose SP is that of `s`, then the pair, SP and one quantum. -/
theorem popReadsTheStack : Obligations.PopReadsTheStack := by
  unfold Obligations.PopReadsTheStack
  intro i s q hform
  have henc := encode_of_opForm hform
  refine ⟨henc, ?_, ?_, ?_⟩
  · rw [memRead_pc, memRead_pc, fetched_pc henc]; rfl
  · rw [memRead_tick, memRead_tick, fetched_tick henc, BitVec.add_assoc, BitVec.add_assoc]; rfl
  · rw [exec_of_opForm hform, execForm, popPair_eq, pop16_eq, setStackPair_with_sp, extraQuantum, addTick,
      State.setStackPair_tick]
    rfl

end Sys2Proof.Machine
end

section
/-! The 8-bit arithmetic and logical instructions (42_alu8.md R190 to R219). -/

namespace Sys2Proof.Machine

open Sys2Proof.Spec

/-! ### The accumulator -/

/-- The new F of an accumulator operation is made of flags, so a write of F keeps it whole (R22). -/
theorem maskF_aluResult (o : AluOp) (s : State) (v : Byte) : maskF (aluResult o s v).2 = (aluResult o s v).2 := by
  cases o <;> exact maskF_flags _ _ _ _

theorem accumulate_eq (o : AluOp) (v : Byte) (s : State) :
    accumulate o v s = { s with a := (aluResult o s v).1, f := (aluResult o s v).2 } := by
  rw [← maskF_aluResult]
  cases o with
  | add | adc => simp only [accumulate, add8_eq_addResult]; rfl
  | sub | sbc | cp => simp only [accumulate, sub8_eq_subResult]; rfl
  | and => simp only [accumulate, and8, packFlags_eq_flags, byte_eq_zero]; rfl
  | xor => simp only [accumulate, xor8, packFlags_eq_flags, byte_eq_zero]; rfl
  | or => simp only [accumulate, or8, packFlags_eq_flags, byte_eq_zero]; rfl

/-- An accumulator operation reads A, F and its operand alone, so a fetch or a read before it does not show in its
result. -/
theorem aluResult_congr {s t : State} (ha : t.a = s.a) (hf : t.f = s.f) (o : AluOp) (v : Byte) :
    aluResult o t v = aluResult o s v := by
  cases o <;> simp only [aluResult, flagC, ha, hf]

/-- After the fetch: A and F of the operation, PC and `tick` of the fetch. -/
theorem accumulate_fetched {i : Instr} {code : List Byte} (h : encode i = code) (o : AluOp) (v : Byte) (s : State) :
    accumulate o v (fetched i s) = { s with
      a := (aluResult o s v).1, f := (aluResult o s v).2
      pc := s.pc + BitVec.ofNat 16 code.length, tick := s.tick + BitVec.ofNat 8 (4 * code.length) } := by
  subst h
  have hresult : aluResult o (fetched i s) v = aluResult o s v := aluResult_congr rfl rfl o v
  rw [accumulate_eq, hresult]
  rfl

/-- The three forms of an accumulator operation: the operand is in a register, read at HL, or a byte of the
instruction. -/
theorem accumulates_all (o : AluOp) : accumulates o := by
  refine ⟨fun i s r hform => ?_, fun i s hform => ?_, fun i s n hform => ?_⟩
  all_goals have henc := encode_of_opForm hform
  · refine ⟨henc, ?_⟩
    calc exec i (fetched i s)
      _ = .next (accumulate o ((fetched i s).reg r) (fetched i s)) := exec_of_opForm hform _
      _ = _ := by rw [fetched_reg, accumulate_fetched henc]; rfl
  · refine ⟨henc, ?_, ?_, ?_⟩
    · rw [memRead_pc, fetched_pc henc]; rfl
    · rw [memRead_tick, fetched_tick henc, BitVec.add_assoc]; rfl
    · have hresult : ∀ v, aluResult o (memRead (joinBytes s.h s.l) (fetched i s)).2 v = aluResult o s v :=
        aluResult_congr (memRead_a _ _) (memRead_f _ _) o
      calc exec i (fetched i s)
        _ = .next (accumulate o (memRead (joinBytes s.h s.l) (fetched i s)).1
              (memRead (joinBytes s.h s.l) (fetched i s)).2) := exec_of_opForm hform _
        _ = _ := by rw [accumulate_eq, hresult]
  · refine ⟨henc, ?_⟩
    calc exec i (fetched i s)
      _ = .next (accumulate o n (fetched i s)) := exec_of_opForm hform _
      _ = _ := by rw [accumulate_fetched henc]; rfl

/-- Settles O29: the operations `add` and `adc` of the accumulator; the read at HL moves neither A nor the carry. -/
theorem addAndAdcAddToA : Obligations.AddAndAdcAddToA := by
  unfold Obligations.AddAndAdcAddToA
  exact ⟨accumulates_all .add, accumulates_all .adc⟩

/-- Settles O30: the operations `sub`, `sbc` and `cp` of the accumulator; `aluResult` of `cp` has A itself as result. -/
theorem subSbcAndCpSubtractFromA : Obligations.SubSbcAndCpSubtractFromA := by
  unfold Obligations.SubSbcAndCpSubtractFromA
  exact ⟨accumulates_all .sub, accumulates_all .sbc, accumulates_all .cp⟩

/-! ### Rewriting one operand -/

/-- Neither the fetch nor the read of an operand moves the carry. -/
theorem readOperand_fetched_flagC (x : Operand8) (i : Instr) (s : State) :
    (readOperand x (fetched i s)).2.flagC = flagC s :=
  congrArg (BitVec.getLsbD · 4) (readOperand_f x (fetched i s))

/-- An instruction that reads an operand, writes it back changed and then writes F rewrites that operand: at (HL) the
read keeps HL, so the write goes to the address read. -/
theorem rewrites_of_exec {i : Instr} {s : State} {x : Operand8} {code : List Byte} {result newF : Byte → Byte}
    (henc : encode i = code) (hmask : ∀ v, maskF (newF v) = newF v)
    (hexec : exec i (fetched i s) =
      andThen (writeOperand x (result (readOperand x (fetched i s)).1) (readOperand x (fetched i s)).2) fun t =>
        .next (t.setF (newF (readOperand x (fetched i s)).1))) :
    rewrites i s x code result newF := by
  cases x with
  | reg r =>
    refine ⟨henc, ?_⟩
    calc exec i (fetched i s)
      _ = .next (((fetched i s).setReg r (result ((fetched i s).reg r))).setF (newF ((fetched i s).reg r))) := hexec
      _ = _ := by rw [fetched_reg, setReg_fetched henc, State.setF, hmask]
  | atHl =>
    have hhl : (readOperand .atHl (fetched i s)).2.hl = joinBytes s.h s.l := readOperand_hl .atHl (fetched i s)
    refine storesByte_of_exec (k := fun t => .next (t.setF (newF (readOperand .atHl (fetched i s)).1))) henc
      (hexec.trans ?_) fun t _ => ?_
    · rw [writeOperand, hhl]; rfl
    · rw [State.setF, hmask]; rfl

/-- Settles O32: both rewrite their operand, with flags that depend on its value and on the carry of `s`. -/
theorem incAndDecOfAByte : Obligations.IncAndDecOfAByte := by
  unfold Obligations.IncAndDecOfAByte
  refine ⟨fun i s x hform => ?_, fun i s x hform => ?_⟩
  all_goals refine rewrites_of_exec (encode_of_opForm hform) (fun _ => maskF_flags _ _ _ _) ?_
  · rw [exec_of_opForm hform, execForm, inc8Operand_eq, readOperand_fetched_flagC, inc8_eq]
  · rw [exec_of_opForm hform, execForm, dec8Operand_eq, readOperand_fetched_flagC, dec8_eq]

end Sys2Proof.Machine
end

section
/-! The 16-bit arithmetic of the pairs (43_alu16.md R220 to R222). -/

namespace Sys2Proof.Machine

open Sys2Proof.Spec

/-! ### Words from numbers -/

/-- The high byte of a word built from a number: what the word drops from bit 16 on, the byte drops too. -/
theorem hiByte_ofNat (n : Nat) : hiByte (BitVec.ofNat 16 n) = byte (n / 256) := by
  apply BitVec.eq_of_toNat_eq
  rw [hiByte_eq_byte, byte, byte, BitVec.toNat_ofNat, BitVec.toNat_ofNat, BitVec.toNat_ofNat]
  omega

theorem loByte_ofNat (n : Nat) : loByte (BitVec.ofNat 16 n) = byte n := by
  apply BitVec.eq_of_toNat_eq
  rw [loByte_toNat, byte, BitVec.toNat_ofNat, BitVec.toNat_ofNat]
  omega

theorem word_add_one (v : Word) : v + 1 = BitVec.ofNat 16 (v.toNat + 1) := by
  rw [BitVec.ofNat_add, BitVec.ofNat_toNat, BitVec.setWidth_eq]
  rfl

/-- A step down is the addition of 65535 modulo 65536. -/
theorem word_sub_one (v : Word) : v - 1 = BitVec.ofNat 16 (v.toNat + 65535) := by
  rw [BitVec.sub_eq_add_neg, BitVec.ofNat_add, BitVec.ofNat_toNat, BitVec.setWidth_eq]
  rfl

/-! ### The three operations after the fetch -/

@[simp] theorem fetched_pair (i : Instr) (s : State) (p : Pair) : (fetched i s).pair p = s.pair p := by
  cases p <;> rfl

theorem add16_eq (a b : Word) (z : Bool) :
    add16 a b z = (BitVec.ofNat 16 (a.toNat + b.toNat),
      flags z false (decide (0x0FFF < a.toNat % 0x1000 + b.toNat % 0x1000)) (decide (0xFFFF < a.toNat + b.toNat))) := by
  rw [add16, packFlags_eq_flags]

/-- HL takes a number modulo 65536, byte by byte. -/
theorem setPair_hl_ofNat (n : Nat) (s : State) :
    s.setPair .hl (BitVec.ofNat 16 n) = { s with h := byte (n / 256), l := byte n } := by
  rw [State.setPair, State.setHL, hiByte_ofNat, loByte_ofNat]

/-- Settles O33: each form writes one pair after the fetch, which has moved no pair; ADD HL writes F besides, which its
mask leaves whole. -/
theorem pairArithmetic : Obligations.PairArithmetic := by
  unfold Obligations.PairArithmetic
  refine ⟨fun i s p hform => ?_, fun i s p hform => ?_, fun i s p hform => ?_⟩
  all_goals
    have henc := encode_of_opForm hform
    refine ⟨henc, ?_⟩
  · calc exec i (fetched i s)
      _ = .next (((fetched i s).setF (add16 s.hl ((fetched i s).pair p) s.flagZ).2).setPair .hl
            (add16 s.hl ((fetched i s).pair p) s.flagZ).1) := exec_of_opForm hform _
      _ = _ := by
        rw [fetched_pair, add16_eq, setPair_setF, setPair_fetched henc, setPair_hl_ofNat, maskF_flags]
        rfl
  · calc exec i (fetched i s)
      _ = .next ((fetched i s).setPair p ((fetched i s).pair p + 1)) := exec_of_opForm hform _
      _ = _ := by rw [fetched_pair, word_add_one, setPair_fetched henc]; rfl
  · calc exec i (fetched i s)
      _ = .next ((fetched i s).setPair p ((fetched i s).pair p - 1)) := exec_of_opForm hform _
      _ = _ := by rw [fetched_pair, word_sub_one, setPair_fetched henc]; rfl

end Sys2Proof.Machine
end

section
/-! The short rotates of A, the flag instructions and NOP (44_accumulator_misc.md R225 to R229, R231 to R233). -/

namespace Sys2Proof.Machine

open Sys2Proof.Spec

/-! ### The short rotates have the low four numbers -/

/-- Four constructors have the form: RLCA, RRCA, RLA and RRA. -/
theorem rotNumber_lt_of_form_eq_rotA {i : Instr} {o : RotOp} (h : i.form = .rotA o) : rotNumber o < 4 := by
  cases i <;> cases h <;> decide

/-- The extended space has its own rotates, none of them the short form (R144). -/
theorem extendedForm_ne_rotA (op2 : Byte) (o : RotOp) : extendedForm op2 ≠ .rotA o := by
  unfold extendedForm
  dsimp only
  split
  · exact Form.noConfusion
  · split
    · exact Form.noConfusion
    · split <;> exact Form.noConfusion

theorem rotNumber_lt_of_opForm_eq_rotA {i : Instr} {o : RotOp} (h : i.opForm = .rotA o) : rotNumber o < 4 := by
  unfold Instr.opForm at h
  split at h
  · rw [decodeExtended_form] at h
    exact absurd h (extendedForm_ne_rotA _ o)
  · exact rotNumber_lt_of_form_eq_rotA h

/-! ### A and F after the fetch -/

/-- The complement of a byte as a difference (R231). -/
theorem xor_ff_eq_byte (v : Byte) : v ^^^ 0xFF = byte (255 - v.toNat) := by
  apply BitVec.eq_of_toNat_eq
  have hnot : v ^^^ 0xFF = ~~~v := BitVec.xor_allOnes
  rw [hnot, BitVec.toNat_not, byte, BitVec.toNat_ofNat]
  omega

/-- A write of the four flags after the fetch: the mask leaves them whole, PC and `tick` are those of the fetch. -/
theorem setF_packFlags_fetched {i : Instr} {code : List Byte} (henc : encode i = code) (z n h c : Bool) (s : State) :
    (fetched i s).setF (packFlags z n h c) = { s with
      f := flags z n h c
      pc := s.pc + BitVec.ofNat 16 code.length, tick := s.tick + BitVec.ofNat 8 (4 * code.length) } := by
  subst henc
  rw [State.setF, maskF_packFlags, packFlags_eq_flags]
  rfl

/-- A short rotate moves A as the extended rotate of its name does; its flags are C alone (R226 to R229). -/
theorem rotateShort_eq (o : RotOp) (v : Byte) (carry : Bool) :
    rotateShort o v carry = (rotated o v carry, packFlags false false false (shiftedOut o v)) := by
  rw [rotateShort, rotate_eq]

/-- Settles O34: the fetch keeps A and F, so each form writes its four flags, and A where it has a result, from those of
`s`; NOP leaves the fetched state as it is. -/
theorem accumulatorAndFlagInstructions : Obligations.AccumulatorAndFlagInstructions := by
  unfold Obligations.AccumulatorAndFlagInstructions
  refine ⟨fun i s o hform => ?_, fun s => ⟨rfl, ?_⟩, fun s => ⟨rfl, ?_⟩, fun s => ⟨rfl, ?_⟩, fun s => ⟨rfl, ?_⟩⟩
  · have henc := encode_of_opForm hform
    refine ⟨rotNumber_lt_of_opForm_eq_rotA hform, henc, ?_⟩
    calc exec i (fetched i s)
      _ = .next (((fetched i s).setF (rotateShort o s.a (flagC s)).2).setReg .a (rotateShort o s.a (flagC s)).1) :=
        exec_of_opForm hform _
      _ = _ := by rw [rotateShort_eq, setF_packFlags_fetched henc]; rfl
  · calc exec .cpl (fetched .cpl s)
      _ = .next (((fetched .cpl s).setF (packFlags (flagZ s) true true (flagC s))).setReg .a (s.a ^^^ 0xFF)) :=
        exec_of_opForm (F := .cpl) rfl _
      _ = _ := by rw [xor_ff_eq_byte, setF_packFlags_fetched (code := [0x2F]) rfl]; rfl
  · calc exec .scf (fetched .scf s)
      _ = .next ((fetched .scf s).setF (packFlags (flagZ s) false false true)) := exec_of_opForm (F := .scf) rfl _
      _ = _ := by rw [setF_packFlags_fetched (code := [0x37]) rfl]; rfl
  · calc exec .ccf (fetched .ccf s)
      _ = .next ((fetched .ccf s).setF (packFlags (flagZ s) false false (!flagC s))) :=
        exec_of_opForm (F := .ccf) rfl _
      _ = _ := by rw [setF_packFlags_fetched (code := [0x3F]) rfl]; rfl
  · exact exec_of_opForm (F := .nop) rfl _

end Sys2Proof.Machine
end

section
/-! The conditions and the jumps (45_control.md R235 to R239, R246). -/

namespace Sys2Proof.Machine

open Sys2Proof.Spec

/-! ### Conditions -/

theorem cond_eq_true_iff_holds (cc : Cond) (s : State) : s.cond cc = true ↔ holds cc s := by
  cases cc with
  | nz | nc => exact iff_of_eq (Bool.not_eq_true' _)
  | z | c => exact Iff.rfl

theorem fetched_cond (i : Instr) (s : State) (cc : Cond) : (fetched i s).cond cc = s.cond cc := by
  cases cc <;> rfl

/-- The fetched state in terms of the code: PC is past it and its bytes are charged (R28, R150). -/
theorem fetched_eq {i : Instr} {code : List Byte} (henc : encode i = code) (s : State) :
    fetched i s = { s with
      pc := s.pc + BitVec.ofNat 16 code.length, tick := s.tick + BitVec.ofNat 8 (4 * code.length) } := by
  subst henc
  rfl

/-- A conditional instruction runs its operation when the condition holds before the fetch, which moves no flag, and is
done after the fetch when it does not (R236, R239, R241, R243). -/
theorem exec_of_conditional {i : Instr} {code : List Byte} {s : State} {cc : Cond} {taken : Result}
    (henc : encode i = code)
    (hexec : exec i (fetched i s) = if (fetched i s).cond cc then taken else .next (fetched i s)) :
    (holds cc s → exec i (fetched i s) = taken) ∧
      (¬holds cc s → exec i (fetched i s) = .next { s with
        pc := s.pc + BitVec.ofNat 16 code.length, tick := s.tick + BitVec.ofNat 8 (4 * code.length) }) := by
  rw [fetched_cond] at hexec
  refine ⟨fun hcc => ?_, fun hcc => ?_⟩
  · rw [hexec, if_pos ((cond_eq_true_iff_holds cc s).mpr hcc)]
  · rw [hexec, if_neg (mt (cond_eq_true_iff_holds cc s).mp hcc), fetched_eq henc]

/-! ### Jumps after the fetch -/

/-- A jump forgets the PC of the fetch and charges one quantum besides those of its bytes (R235). -/
theorem jumpTo_fetched {i : Instr} {code : List Byte} (henc : encode i = code) (nn : Word) (s : State) :
    jumpTo nn (fetched i s) = .next { s with
      pc := nn, tick := s.tick + BitVec.ofNat 8 (4 * code.length + 4) } := by
  rw [jumpTo_eq, fetched_eq henc, BitVec.ofNat_add, ← BitVec.add_assoc]
  rfl

/-- The target of a relative jump as a sum of integers: two bytes for the instruction and the signed offset (R238). -/
theorem add_two_add_sext8 (w : Word) (e : Byte) : w + 2 + sext8 e = BitVec.ofInt 16 (w.toNat + 2 + e.toInt) := by
  rw [BitVec.ofInt_add, BitVec.ofInt_add, BitVec.ofInt_natCast, BitVec.ofNat_toNat, BitVec.setWidth_eq]
  rfl

/-- A relative jump of two bytes, in the state after its fetch. -/
theorem jumpRel_fetched {i : Instr} {op e : Byte} (henc : encode i = [op, e]) (s : State) :
    jumpRel e (fetched i s) = .next { s with
      pc := BitVec.ofInt 16 (s.pc.toNat + 2 + e.toInt), tick := s.tick + 12 } := by
  have htarget : (fetched i s).pc + sext8 e = BitVec.ofInt 16 (s.pc.toNat + 2 + e.toInt) := by
    rw [fetched_pc henc, ← add_two_add_sext8]
    rfl
  rw [jumpRel, htarget, jumpTo_fetched henc]
  rfl

/-- Settles O37: each form jumps in the fetched state, at once or under its condition; a jump not taken leaves that
state as it is. -/
theorem jumpsGoToTheirTarget : Obligations.JumpsGoToTheirTarget := by
  unfold Obligations.JumpsGoToTheirTarget
  refine ⟨fun i s nn hform => ?_, fun i s cc nn hform => ?_, fun i s hform => ?_, fun i s e hform => ?_,
    fun i s cc e hform => ?_⟩
  all_goals
    have henc := encode_of_opForm hform
    refine ⟨henc, ?_⟩
  · exact (exec_of_opForm hform _).trans (jumpTo_fetched henc nn s)
  · obtain ⟨htaken, hnot⟩ := exec_of_conditional (taken := jumpTo nn (fetched i s)) henc (exec_of_opForm hform _)
    exact ⟨fun hcc => (htaken hcc).trans (jumpTo_fetched henc nn s), hnot⟩
  · exact (exec_of_opForm hform _).trans (jumpTo_fetched henc _ s)
  · exact (exec_of_opForm hform _).trans (jumpRel_fetched henc s)
  · obtain ⟨htaken, hnot⟩ := exec_of_conditional (taken := jumpRel e (fetched i s)) henc (exec_of_opForm hform _)
    exact ⟨fun hcc => (htaken hcc).trans (jumpRel_fetched henc s), hnot⟩

end Sys2Proof.Machine
end

section
/-! The word store, the calls and the restarts (41_load16.md R186; 45_control.md R240, R241, R245). -/

namespace Sys2Proof.Machine

open Sys2Proof.Spec

/-! ### One word store -/

/-- An instruction that runs as one word write and then `after` stores that word: it stops at the first of the two bytes
that is an illegal DMA source, the low byte being written first (R75, D14). -/
theorem storesWord_of_exec {i : Instr} {s : State} {code : List Byte} {base : State} {addr v : Word}
    {after : State → State} (henc : encode i = code)
    (hexec : exec i (fetched i s) = andThen (memWrite16 addr v base) fun t => .next (after t)) :
    storesWord i s code base addr v after := by
  refine ⟨henc, fun hlo hhi => ?_, fun hlo => ?_, fun hlo hhi => ?_⟩
  · obtain ⟨m, hm⟩ := exists_memWrite_of_not_badDma hlo base
    obtain ⟨t, ht⟩ := exists_memWrite_of_not_badDma hhi m
    exact ⟨m, t, hm, ht, by rw [hexec, memWrite16, hm, andThen_next, ht, andThen_next]⟩
  · rw [hexec, memWrite16, memWrite_of_badDma hlo, andThen_fault, andThen_fault]
  · obtain ⟨m, hm⟩ := exists_memWrite_of_not_badDma hlo base
    rw [hexec, memWrite16, hm, andThen_next, memWrite_of_badDma hhi, andThen_fault]

/-! ### Calls after the fetch -/

/-- A call in the fetched state pushes the PC of the fetch, the address of the next instruction (R240). -/
theorem storesWord_of_exec_callTo {i : Instr} {code : List Byte} {s : State} {nn : Word} (henc : encode i = code)
    (hexec : exec i (fetched i s) = callTo nn (fetched i s)) :
    storesWord i s code { fetched i s with sp := s.sp - 2 } (s.sp - 2) (s.pc + BitVec.ofNat 16 code.length)
      fun t => { t with pc := nn, tick := t.tick + 4 } := by
  refine storesWord_of_exec henc ?_
  rw [hexec, callTo_eq, fetched_pc henc]
  rfl

/-- Settles O38: each form is a call in the fetched state, at once or under its condition; a call not taken leaves the
fetched state as it is. -/
theorem callsPushTheReturnAddress : Obligations.CallsPushTheReturnAddress := by
  unfold Obligations.CallsPushTheReturnAddress
  refine ⟨fun i s nn hform => ?_, fun i s cc nn hform => ?_, fun i s t hform => ?_⟩
  all_goals have henc := encode_of_opForm hform
  · exact storesWord_of_exec_callTo henc (exec_of_opForm hform _)
  · obtain ⟨htaken, hnot⟩ := exec_of_conditional (taken := callTo nn (fetched i s)) henc (exec_of_opForm hform _)
    exact ⟨henc, fun hcc => storesWord_of_exec_callTo henc (htaken hcc), hnot⟩
  · exact storesWord_of_exec_callTo henc (exec_of_opForm hform _)

end Sys2Proof.Machine
end

section
/-! The returns (45_control.md R242 to R244). -/

namespace Sys2Proof.Machine

open Sys2Proof.Spec

/-- A return of one byte, in the state after its fetch: the word of two reads at SP goes to PC, for the quanta of the
byte, the two reads and the jump (R187, R242). -/
theorem quantum_setPC_pop16_fetched {i : Instr} {op : Byte} (henc : encode i = [op]) (s : State) :
    extraQuantum ((pop16 (fetched i s)).2.setPC (pop16 (fetched i s)).1) =
      { (memRead (s.sp + 1) (memRead s.sp (fetched i s)).2).2 with
        pc := joinBytes (memRead (s.sp + 1) (memRead s.sp (fetched i s)).2).1 (memRead s.sp (fetched i s)).1
        sp := s.sp + 2, tick := s.tick + 16 } := by
  have htick : (memRead (s.sp + 1) (memRead s.sp (fetched i s)).2).2.tick + Config.cycleQuantum = s.tick + 16 := by
    rw [memRead_tick, memRead_tick, fetched_tick henc, BitVec.add_assoc, BitVec.add_assoc, BitVec.add_assoc]
    rfl
  rw [pop16_eq, ← htick]
  rfl

/-- Settles O39: each form pops PC in the fetched state, whose SP is that of `s`, at once or under its condition; RETI
writes IME besides. -/
theorem returnsPopThePc : Obligations.ReturnsPopThePc := by
  unfold Obligations.ReturnsPopThePc
  intro i s
  refine ⟨fun hform => ?_, fun hform => ?_, fun cc hform => ?_⟩
  all_goals
    have henc := encode_of_opForm hform
    have hback := quantum_setPC_pop16_fetched henc s
    refine ⟨henc, ?_⟩
  · exact (exec_of_opForm hform _).trans (congrArg _ hback)
  · calc exec i (fetched i s)
      _ = .next { extraQuantum ((pop16 (fetched i s)).2.setPC (pop16 (fetched i s)).1) with ime := true } :=
        exec_of_opForm hform _
      _ = _ := by rw [hback]
  · obtain ⟨htaken, hnot⟩ := exec_of_conditional (taken := returnTo (fetched i s)) henc (exec_of_opForm hform _)
    exact ⟨fun hcc => (htaken hcc).trans (congrArg _ hback), hnot⟩

end Sys2Proof.Machine
end

section
/-! The rotates, shifts and swap of the extended space (47_cb_prefixed.md R260 to R276). -/

namespace Sys2Proof.Machine

open Sys2Proof.Spec

/-- Result and F of an extended rotate: unlike the short form it has Z of its result (R260). -/
theorem rotateFlags_eq (o : RotOp) (v : Byte) (carry : Bool) :
    rotateFlags o v carry = (rotated o v carry,
      flags (decide ((rotated o v carry).toNat = 0)) false false (shiftedOut o v)) := by
  rw [rotateFlags, rotate_eq, ← byte_eq_zero, ← packFlags_eq_flags]

/-- Every operation of the extended space rewrites its operand, with the carry of `s`. -/
theorem rotates_all (o : RotOp) : rotates o := by
  intro i s x hform
  refine rewrites_of_exec (encode_of_opForm hform) (fun _ => maskF_flags _ _ _ _) ?_
  rw [exec_of_opForm hform, execForm, rotateOperand_eq, readOperand_fetched_flagC, rotateFlags_eq]

/-- Settles O42: the four rotates rewrite their operand; the read at HL moves neither the carry nor HL. -/
theorem extendedRotates : Obligations.ExtendedRotates := by
  unfold Obligations.ExtendedRotates
  exact ⟨rotates_all .rlc, rotates_all .rrc, rotates_all .rl, rotates_all .rr⟩

/-- Settles O43: the shifts and the swap rewrite their operand as the rotates do. -/
theorem extendedShiftsAndSwap : Obligations.ExtendedShiftsAndSwap := by
  unfold Obligations.ExtendedShiftsAndSwap
  exact ⟨rotates_all .sla, rotates_all .sra, rotates_all .swap, rotates_all .srl⟩

end Sys2Proof.Machine
end

section
/-! The bit instructions of the extended space (47_cb_prefixed.md R277 to R282). -/

namespace Sys2Proof.Machine

open Sys2Proof.Spec

/-- An instruction that reads an operand and writes it back changed, and no more, rewrites that operand and keeps F:
nothing masks F, so its low nibble in `s` does not matter. -/
theorem rewrites_keeping_f_of_exec {i : Instr} {s : State} {x : Operand8} {code : List Byte} {result : Byte → Byte}
    (henc : encode i = code)
    (hexec : exec i (fetched i s) =
      writeOperand x (result (readOperand x (fetched i s)).1) (readOperand x (fetched i s)).2) :
    rewrites i s x code result fun _ => s.f := by
  cases x with
  | reg r =>
    refine ⟨henc, ?_⟩
    calc exec i (fetched i s)
      _ = .next ((fetched i s).setReg r (result ((fetched i s).reg r))) := hexec
      _ = _ := by rw [fetched_reg, setReg_fetched henc, ← State.setReg_f r (result (s.reg r)) s]
  | atHl =>
    have hhl : (readOperand .atHl (fetched i s)).2.hl = joinBytes s.h s.l := readOperand_hl .atHl (fetched i s)
    rw [writeOperand, hhl] at hexec
    obtain ⟨_, hlegal, hbad⟩ := storesByte_of_exec_eq henc hexec
    refine ⟨henc, fun hok => ?_, hbad⟩
    obtain ⟨t, hwrite, hnext⟩ := hlegal hok
    obtain ⟨hframe, _⟩ := memWrite_frame hwrite
    have hf : t.f = s.f := hframe.f.trans (readOperand_f .atHl (fetched i s))
    exact ⟨t, hwrite, by rw [hnext, ← hf]; rfl⟩

/-- `BIT` after its operand is read: F alone is written, the carry being that of `s` (R277, R278). -/
theorem exec_bit {i : Instr} {b : Fin 8} {x : Operand8} (hform : i.opForm = .bit b x) (s : State) :
    exec i (fetched i s) = .next ((readOperand x (fetched i s)).2.setF
      (packFlags (!(readOperand x (fetched i s)).1.getLsbD b.val) false true (flagC s))) := by
  rw [exec_of_opForm hform, execForm, testBit_eq, readOperand_fetched_flagC, bitFlags]

/-- Settles O44: BIT writes F after one read; RES and SET write their operand back through the mask of the bit, which
clears or sets that bit alone, and F is never written. -/
theorem bitTestResetAndSet : Obligations.BitTestResetAndSet := by
  unfold Obligations.BitTestResetAndSet
  refine ⟨fun i s b r hform => ?_, fun i s b hform => ?_, fun i s b x hform => ?_, fun i s b x hform => ?_⟩
  all_goals have henc := encode_of_opForm hform
  · refine ⟨henc, ?_⟩
    calc exec i (fetched i s)
      _ = .next ((fetched i s).setF (packFlags (!((fetched i s).reg r).getLsbD b.val) false true (flagC s))) :=
        exec_bit hform s
      _ = _ := by rw [fetched_reg, setF_packFlags_fetched henc]; rfl
  · refine ⟨henc, ?_, ?_, ?_⟩
    · rw [memRead_pc, fetched_pc henc]; rfl
    · rw [memRead_tick, fetched_tick henc, BitVec.add_assoc]; rfl
    · rw [exec_bit hform, State.setF, maskF_packFlags, packFlags_eq_flags]; rfl
  · refine rewrites_keeping_f_of_exec henc ?_
    rw [exec_of_opForm hform, execForm, resetBit_eq, clearMask_eq]
  · refine rewrites_keeping_f_of_exec henc ?_
    rw [exec_of_opForm hform, execForm, setBit_eq, setMask_eq]

end Sys2Proof.Machine
end

section
/-! The search for the pending source (60_exceptions.md R309, R311). -/

namespace Sys2Proof.Machine

open Sys2Proof.Spec

/-! ### The bits of the pending set -/

/-- The pending set holds the five sources that are requested and enabled, and no higher bit (R309). -/
theorem pending_getLsbD (s : State) (k : Nat) : (pending s).getLsbD k = (decide (k < 5) && pendingBit s k) := by
  have hmask : (0x1F : Byte).getLsbD k = decide (k < 5) := Nat.testBit_two_pow_sub_one 5 k
  rw [pending, BitVec.getLsbD_and, BitVec.getLsbD_and, hmask, pendingBit, Bool.and_comm,
    Bool.and_comm (s.iflag.getLsbD k)]

/-- A source is in the pending set exactly when its pending bit is set. -/
theorem pending_getLsbD_of_lt (s : State) {k : Nat} (hk : k < 5) : (pending s).getLsbD k = pendingBit s k := by
  rw [pending_getLsbD, decide_eq_true hk, Bool.true_and]

/-- No source numbered below `n` is pending. -/
def NoneBelow (s : State) (n : Nat) : Prop := ∀ k < n, pendingBit s k = false

theorem noneBelow_zero (s : State) : NoneBelow s 0 := fun k hk => absurd hk (Nat.not_lt_zero k)

/-- A failed test of source `n` extends the range known to be clear. -/
theorem NoneBelow.succ {s : State} {n : Nat} (hbelow : NoneBelow s n) (hn : ¬pendingBit s n = true) :
    NoneBelow s (n + 1) :=
  Nat.forall_lt_succ_right.mpr ⟨hbelow, Bool.eq_false_iff.mpr hn⟩

/-- With none of the five sources pending the pending set is empty: a bit above the five is never set. -/
theorem NoneBelow.pending_eq_zero {s : State} (hnone : NoneBelow s 5) : pending s = 0 := by
  refine BitVec.eq_of_getLsbD_eq fun k _ => ?_
  rw [pending_getLsbD, BitVec.ofNat_eq_ofNat, BitVec.getLsbD_zero]
  by_cases hk : k < 5
  · rw [hnone k hk, Bool.and_false]
  · rw [decide_eq_false hk, Bool.false_and]

/-- A pending source with none below it is the lowest bit of the pending set (R311). -/
theorem NoneBelow.isLowest {s : State} {k : Fin 5} (hbelow : NoneBelow s k.val) (hk : pendingBit s k.val = true) :
    isLowest (pending s) k :=
  ⟨(pending_getLsbD_of_lt s k.isLt).trans hk,
    fun j hj => (pending_getLsbD_of_lt s (Nat.lt_trans hj k.isLt)).trans (hbelow j hj)⟩

/-! ### The lowest bit of a byte -/

/-- A byte with a lowest bit is not 0. -/
theorem isLowest_ne_zero {p : Byte} {k : Fin 5} (hk : isLowest p k) : p ≠ 0 := by
  rintro rfl
  exact absurd (BitVec.getLsbD_zero.symm.trans hk.1) Bool.false_ne_true

/-- The lowest bit is not above another set bit. -/
theorem isLowest_le {p : Byte} {j k : Fin 5} (hj : isLowest p j) (hk : p.getLsbD k.val = true) : j ≤ k :=
  Nat.le_of_not_lt fun hlt => Bool.false_ne_true ((hj.2 k.val hlt).symm.trans hk)

/-- A byte has at most one lowest bit. -/
theorem isLowest_unique {p : Byte} {j k : Fin 5} (hj : isLowest p j) (hk : isLowest p k) : j = k :=
  Fin.le_antisymm (isLowest_le hj hk.1) (isLowest_le hk hj.1)

/-! ### The search -/

/-- What the search answers: each of its tests comes after the failed tests of every lower source. -/
theorem pendingSource_cases (s : State) :
    (pendingSource s = none ∧ pending s = 0) ∨ ∃ k, pendingSource s = some k ∧ isLowest (pending s) k := by
  have below0 := noneBelow_zero s
  unfold pendingSource
  split
  next h0 => exact .inr ⟨0, rfl, below0.isLowest h0⟩
  next h0 =>
  have below1 := below0.succ h0
  split
  next h1 => exact .inr ⟨1, rfl, below1.isLowest h1⟩
  next h1 =>
  have below2 := below1.succ h1
  split
  next h2 => exact .inr ⟨2, rfl, below2.isLowest h2⟩
  next h2 =>
  have below3 := below2.succ h2
  split
  next h3 => exact .inr ⟨3, rfl, below3.isLowest h3⟩
  next h3 =>
  have below4 := below3.succ h3
  split
  next h4 => exact .inr ⟨4, rfl, below4.isLowest h4⟩
  next h4 => exact .inl ⟨rfl, (below4.succ h4).pending_eq_zero⟩

/-- Settles O54: the search answers none on an empty set and otherwise a lowest bit, of which there is only one. -/
theorem pendingSourceIsTheLowestBit : Obligations.PendingSourceIsTheLowestBit := by
  unfold Obligations.PendingSourceIsTheLowestBit
  intro s
  rcases pendingSource_cases s with ⟨hsource, hzero⟩ | ⟨j, hsource, hlowest⟩
  · rw [hsource]
    refine ⟨iff_of_true rfl hzero, fun k => iff_of_false nofun fun hk => ?_⟩
    exact isLowest_ne_zero hk hzero
  · rw [hsource]
    refine ⟨iff_of_false nofun (isLowest_ne_zero hlowest), fun k => ?_⟩
    constructor
    · rintro ⟨⟩
      exact hlowest
    · intro hk
      rw [isLowest_unique hlowest hk]

end Sys2Proof.Machine
end

section
/-! Decoding and encoding are inverse; the opcode maps by their fields; the length of an instruction (30_encoding.md R131 to
R151; 46_system.md R255). -/

namespace Sys2Proof.Machine

open Sys2Proof.Spec

/-! ### One opcode byte after another -/

/-- Two functions of the opcode byte agree if they agree on each row of the opcode map, a row being the sixteen bytes with
one high nibble. -/
theorem eq_of_rows {α : Type} {f g : Byte → α}
    (h : (List.range 16).map (fun hi => (List.range 16).map fun lo => f (byte (16 * hi + lo))) =
      (List.range 16).map fun hi => (List.range 16).map fun lo => g (byte (16 * hi + lo))) (op : Byte) : f op = g op := by
  have hlt := op.isLt
  have hrow := List.map_inj_left.mp h (op.toNat / 16) (List.mem_range.mpr (by omega))
  have hop : byte (16 * (op.toNat / 16) + op.toNat % 16) = op := by
    rw [Nat.div_add_mod, byte, BitVec.ofNat_toNat, BitVec.setWidth_eq]
  have hentry := List.map_inj_left.mp hrow (op.toNat % 16) (List.mem_range.mpr (by omega))
  rwa [hop] at hentry

/-- The fields of the extended byte, as the machine and as the map of R144 read them. -/
theorem extendedForm_eq_extendedMap (op2 : Byte) : extendedForm op2 = extendedMap op2 := by
  revert op2
  exact forall_byte (by decide +kernel)

/-- The form of every primary opcode, by the fields of its byte; the prefix leads into the extended rows. -/
theorem decode_form (op b1 b2 : Byte) :
    (decode op b1 b2).form =
      if op = 0xCB then (decodeExtended b1).form else primaryMap op b1 (joinBytes b2 b1) := by
  revert op
  exact eq_of_rows rfl

/-! ### From the instruction to its bytes and back -/

/-- Settles O1: each constructor's bytes lead the decoder to its own entry, which joins a word operand again. -/
theorem encodedInstructionsDecodeBack : Obligations.EncodedInstructionsDecodeBack := by
  unfold Obligations.EncodedInstructionsDecodeBack
  intro i rest hi
  cases i with
  | prefixCb op2 => exact nomatch hi
  | ldBcNn nn | ldIndNnSp nn | ldDeNn nn | ldHlNn nn | ldSpNn nn | jpNzNn nn | jpNn nn | callNzNn nn | jpZNn nn | callZNn nn
  | callNn nn | jpNcNn nn | callNcNn nn | jpCNn nn | callCNn nn | ldIndNnA nn | ldAIndNn nn =>
    conv => rhs; rw [← joinBytes_bytes nn]
    rfl
  | _ => rfl

/-! ### From the bytes to the instruction and back -/

theorem encode_decodeExtended (op2 : Byte) : encode (decodeExtended op2) = [0xCB, op2] := by
  rw [encode_eq_form, decodeExtended_form, extendedForm_bytes]

/-- The bytes of an instruction with opcode `op` and operand bytes `b1`, `b2`: as many as R149 says. -/
def opcodeBytes (op b1 b2 : Byte) : List Byte := [op, b1, b2].take (opcodeLength op)

/-- The bytes of every primary opcode; a word operand is split into the bytes it was joined from. -/
theorem encode_decode_rows (op b1 b2 : Byte) :
    encode (decode op b1 b2) =
      if op = 0xCB then encode (decodeExtended b1) else if opcodeLength op = 2 then [op, b1] else
        opcodeBytes op (loByte (joinBytes b2 b1)) (hiByte (joinBytes b2 b1)) := by
  revert op
  exact eq_of_rows rfl

theorem encode_decode (op b1 b2 : Byte) : encode (decode op b1 b2) = opcodeBytes op b1 b2 := by
  rw [encode_decode_rows, encode_decodeExtended, loByte_joinBytes, hiByte_joinBytes]
  split
  next hop => rw [hop]; rfl
  next =>
    split
    next hlen => rw [opcodeBytes, hlen]; rfl
    next => rfl

theorem decodeExtended_wellFormed (op2 : Byte) : (decodeExtended op2).wellFormed = true := by
  revert op2
  exact forall_byte (by decide +kernel)

/-- No opcode byte decodes to the prefix row: 0xCB leads to an extended row (log 9). -/
theorem decode_wellFormed (op b1 b2 : Byte) : (decode op b1 b2).wellFormed = true := by
  have hrow : (decode op b1 b2).wellFormed = if op = 0xCB then (decodeExtended b1).wellFormed else true := by
    revert op
    exact eq_of_rows rfl
  rw [hrow, decodeExtended_wellFormed, ite_self]

/-! ### The decoder by the length of the opcode byte -/

theorem opcodeLength_cases (op : Byte) : opcodeLength op = 1 ∨ opcodeLength op = 2 ∨ opcodeLength op = 3 := by
  unfold opcodeLength
  split
  · exact .inr (.inr rfl)
  · split
    · exact .inr (.inl rfl)
    · exact .inl rfl

/-- With fewer bytes than the opcode byte asks for there is no instruction. -/
theorem decodeBytes_of_lt {op : Byte} {more : List Byte} (h : more.length + 1 < opcodeLength op) :
    decodeBytes (op :: more) = .error .truncated := by
  rcases opcodeLength_cases op with hlen | hlen | hlen <;> rw [hlen] at h
  · omega
  · obtain rfl : more = [] := List.length_eq_zero_iff.mp (by omega)
    simp [decodeBytes, hlen]
  · match more, h with
    | [], _ | [_], _ => simp [decodeBytes, hlen]

/-- With enough bytes it is the entry of the opcode byte on the next two bytes, of which it uses those it asks for. -/
theorem decodeBytes_of_le {op : Byte} {more : List Byte} (h : opcodeLength op ≤ more.length + 1) :
    ∃ b1 b2, decodeBytes (op :: more) = .ok (decode op b1 b2, more.drop (opcodeLength op - 1)) ∧
      opcodeBytes op b1 b2 ++ more.drop (opcodeLength op - 1) = op :: more := by
  rcases opcodeLength_cases op with hlen | hlen | hlen <;> rw [hlen] at h
  · exact ⟨0, 0, by simp [decodeBytes, opcodeBytes, hlen]⟩
  · match more, h with
    | b1 :: rest, _ => exact ⟨b1, 0, by simp [decodeBytes, opcodeBytes, hlen]⟩
  · match more, h with
    | b1 :: b2 :: rest, _ => exact ⟨b1, b2, by simp [decodeBytes, opcodeBytes, hlen]⟩

/-- Settles O2: what the decoder reads is the entry of the first byte on the bytes read. -/
theorem decodedInstructionsEncodeBack : Obligations.DecodedInstructionsEncodeBack := by
  unfold Obligations.DecodedInstructionsEncodeBack
  intro bytes i rest hread
  match bytes with
  | [] => exact nomatch hread
  | op :: more =>
    rcases Nat.lt_or_ge (more.length + 1) (opcodeLength op) with hlt | hle
    · rw [decodeBytes_of_lt hlt] at hread
      exact nomatch hread
    · obtain ⟨b1, b2, hdecode, hbytes⟩ := decodeBytes_of_le hle
      obtain ⟨rfl, rfl⟩ : decode op b1 b2 = i ∧ more.drop (opcodeLength op - 1) = rest := by
        simpa [hdecode] using hread
      exact ⟨decode_wellFormed op b1 b2, by rw [encode_decode, hbytes]⟩

/-! ### Maps, lengths and words -/

/-- Settles O3: the extended map by evaluation over its byte, the primary map row by row. -/
theorem opcodeMapsFollowTheirFields : Obligations.OpcodeMapsFollowTheirFields := by
  unfold Obligations.OpcodeMapsFollowTheirFields
  refine ⟨fun op2 => ?_, fun op b1 b2 hop => ?_, fun b1 b2 => rfl⟩
  · rw [decodeExtended_form, extendedForm_eq_extendedMap]
  · rw [decode_form, if_neg hop]

/-- The bytes of an opcode begin with it and are as many as its length. -/
theorem opcodeBytes_shape (op b1 b2 : Byte) :
    (opcodeBytes op b1 b2).length = opcodeLength op ∧ (opcodeBytes op b1 b2).head? = some op := by
  rcases opcodeLength_cases op with hlen | hlen | hlen <;> simp [opcodeBytes, hlen]

/-- Settles O5: the lists of R149 are those of `opcodeLength`, by which the decoder cuts. -/
theorem lengthFollowsTheOpcodeByte : Obligations.LengthFollowsTheOpcodeByte := by
  unfold Obligations.LengthFollowsTheOpcodeByte
  intro length
  have hlength : ∀ op, length op = opcodeLength op := forall_byte (by decide +kernel)
  refine ⟨rfl, fun op more => ?_⟩
  rw [hlength]
  refine ⟨decodeBytes_of_lt, fun hle => ?_⟩
  obtain ⟨b1, b2, hdecode, _⟩ := decodeBytes_of_le hle
  refine ⟨decode op b1 b2, hdecode, ?_⟩
  rw [encode_decode]
  exact opcodeBytes_shape op b1 b2

/-- Settles O4: eight closed words, each decoded by evaluation. -/
theorem wordsOfTheSpecDecode : Obligations.WordsOfTheSpecDecode := by
  unfold Obligations.WordsOfTheSpecDecode
  exact ⟨rfl, rfl, rfl, rfl, rfl, rfl, rfl, rfl⟩

/-- Settles O6: the prefix row runs its second byte by its fields, which are the form of the extended row. -/
theorem prefixRunsTheExtendedRow : Obligations.PrefixRunsTheExtendedRow := by
  unfold Obligations.PrefixRunsTheExtendedRow
  intro op2 s
  refine ⟨rfl, encode_decodeExtended op2, ?_⟩
  rw [exec_eq_form (decodeExtended op2), decodeExtended_form, ← extendedByte_eq_form]
  rfl

end Sys2Proof.Machine
end

section
/-! The reset state, the canonical arrays and the load procedure (10_state.md R45; 70_reset_and_hazards.md R342 to R346). -/

namespace Sys2Proof.Machine

open Sys2Proof.Spec

/-! ### Canonical arrays -/

theorem Memory.wfFrom_cons_iff {k lo hi : Nat} {v : Byte} {m : Memory} :
    Memory.wfFrom ((k, v) :: m) lo hi = true ↔
      lo ≤ k ∧ k < hi ∧ v ≠ Memory.unlisted ∧ Memory.wfFrom m (k + 1) hi = true := by
  simp [Memory.wfFrom, and_assoc]

@[simp] theorem Memory.read_cons_head (k : Nat) (v : Byte) (m : Memory) : Memory.read ((k, v) :: m) k = v := by
  simp [Memory.read]

/-- Loosening the upper bound of a canonical list. -/
theorem Memory.wfFrom_mono_hi {m : Memory} {lo hi hi' : Nat} (h : m.wfFrom lo hi = true) (hhi : hi ≤ hi') :
    m.wfFrom lo hi' = true := by
  induction m generalizing lo with
  | nil => rfl
  | cons x m ih =>
    obtain ⟨hlo, hk, hv, htail⟩ := Memory.wfFrom_cons_iff.mp h
    exact Memory.wfFrom_cons_iff.mpr ⟨hlo, Nat.lt_of_lt_of_le hk hhi, hv, ih htail⟩

/-- The first listed index of one of two canonical arrays that read alike is not below that of the other: the other
would read an unlisted byte there. -/
theorem Memory.head_le_of_read_eq {k j lo hi hi' : Nat} {v w : Byte} {m n : Memory}
    (hm : Memory.wfFrom ((k, v) :: m) lo hi = true) (hn : Memory.wfFrom ((j, w) :: n) j hi' = true)
    (hread : Memory.read ((k, v) :: m) k = Memory.read ((j, w) :: n) k) : j ≤ k := by
  obtain ⟨_, _, hv, _⟩ := Memory.wfFrom_cons_iff.mp hm
  refine Nat.le_of_not_lt fun hlt => hv ?_
  rw [← Memory.read_cons_head k v m, hread, Memory.read_below hn hlt]

/-- The tails of canonical arrays with the same first entry read alike if the arrays do. -/
theorem Memory.read_tail_eq {k hi hi' : Nat} {v : Byte} {m n : Memory} (hm : Memory.wfFrom m (k + 1) hi = true)
    (hn : Memory.wfFrom n (k + 1) hi' = true)
    (hread : ∀ i, Memory.read ((k, v) :: m) i = Memory.read ((k, v) :: n) i) (i : Nat) : m.read i = n.read i := by
  rcases Nat.lt_or_ge i (k + 1) with hlt | hge
  · rw [Memory.read_below hm hlt, Memory.read_below hn hlt]
  · have hne : i ≠ k := by omega
    simpa [Memory.read, hne] using hread i

theorem Memory.eq_of_read_eq {m n : Memory} {lo lo' hi hi' : Nat} (hm : m.wfFrom lo hi = true)
    (hn : n.wfFrom lo' hi' = true) (hread : ∀ i, m.read i = n.read i) : m = n := by
  induction m generalizing n lo lo' with
  | nil =>
    cases n with
    | nil => rfl
    | cons y n =>
      obtain ⟨_, _, hw, _⟩ := Memory.wfFrom_cons_iff.mp hn
      exact absurd ((Memory.read_cons_head _ _ n).symm.trans (hread y.1).symm) hw
  | cons x m ih =>
    obtain ⟨k, v⟩ := x
    obtain ⟨hlo, hk, hv, hmtail⟩ := Memory.wfFrom_cons_iff.mp hm
    cases n with
    | nil => exact absurd ((Memory.read_cons_head k v m).symm.trans (hread k)) hv
    | cons y n =>
      obtain ⟨j, w⟩ := y
      obtain ⟨hlo', hj, hw, hntail⟩ := Memory.wfFrom_cons_iff.mp hn
      have hjk : j ≤ k := Memory.head_le_of_read_eq hm (Memory.wfFrom_cons_iff.mpr ⟨Nat.le_refl j, hj, hw, hntail⟩) (hread k)
      have hkj : k ≤ j :=
        Memory.head_le_of_read_eq hn (Memory.wfFrom_cons_iff.mpr ⟨Nat.le_refl k, hk, hv, hmtail⟩) (hread j).symm
      obtain rfl : j = k := Nat.le_antisymm hjk hkj
      obtain rfl : v = w := by simpa using hread j
      rw [ih hmtail hntail (Memory.read_tail_eq hmtail hntail hread)]

/-- Settles O21: by induction over both lists, whose first entries have to agree. -/
theorem canonicalMemoriesAreEqualData : Obligations.CanonicalMemoriesAreEqualData := by
  unfold Obligations.CanonicalMemoriesAreEqualData
  intro m n size hm hn hread
  exact Memory.eq_of_read_eq hm hn hread

/-- `ofBytes` holds its bytes in order from its first index on, and unlisted bytes after them. -/
theorem Memory.read_ofBytes_add (bytes : List Byte) (start k : Nat) :
    (Memory.ofBytes start bytes).read (start + k) = bytes.getD k 0x00 := by
  induction bytes generalizing start k with
  | nil => rfl
  | cons v vs ih =>
    cases k with
    | zero => exact Memory.read_cons_self (Memory.wfFrom_ofBytes vs (start + 1))
    | succ k =>
      rw [Memory.ofBytes, Memory.read_cons_ne (by omega), Nat.add_comm k 1, ← Nat.add_assoc, ih, Nat.add_comm 1 k,
        List.getD_cons_succ]

theorem Memory.read_ofBytes (bytes : List Byte) (k : Nat) : (Memory.ofBytes 0 bytes).read k = bytes.getD k 0x00 := by
  rw [← Memory.read_ofBytes_add bytes 0 k, Nat.zero_add]

theorem Memory.wf_ofBytes {bytes : List Byte} {size : Nat} (h : bytes.length ≤ size) :
    (Memory.ofBytes 0 bytes).wf size = true :=
  Memory.wfFrom_mono_hi (Memory.wfFrom_ofBytes bytes 0) (by omega)

/-! ### Reset -/

/-- Settles O7: `State.powerOn` field by field; WRAM and HRAM list nothing. -/
theorem resetLeavesTheTableOfR45 : Obligations.ResetLeavesTheTableOfR45 := by
  unfold Obligations.ResetLeavesTheTableOfR45
  intro cart
  exact ⟨rfl, rfl, rfl, rfl, rfl, rfl, rfl, rfl, rfl, rfl, rfl, rfl, rfl, rfl, Memory.read_nil, Memory.read_nil,
    rfl, rfl, rfl, rfl, rfl, rfl, rfl, rfl, rfl⟩

/-- The power-on state of a cartridge of legal sizes whose arrays lie inside them meets the invariant. -/
theorem powerOn_inv {cart : Cartridge} (hsizes : sizesLegal cart.romBanks cart.ramSize)
    (hrom : cart.rom.wf (0x4000 * cart.romBanks) = true) (hram : cart.ramInit.wf cart.ramSize = true) :
    (State.powerOn cart).Inv :=
  ⟨(by decide : Config.resetF &&& 0x0F = 0), hsizes, rfl, rfl, hrom, hram⟩

/-- Settles O8: the machine with no image has two banks, no RAM and empty arrays. -/
theorem resetMeetsTheInvariant : Obligations.ResetMeetsTheInvariant :=
  powerOn_inv ⟨⟨0, rfl⟩, List.mem_cons_self⟩ rfl rfl

/-! ### The number of banks -/

/-- Doubling ends at the start times a power of two that is no larger than any such number that suffices, and suffices
itself if `fuel` doublings do. -/
theorem doubleUntil_spec (fuel n need : Nat) :
    (∃ j, doubleUntil fuel n need = 2 ^ j * n) ∧
    (need ≤ 0x4000 * (2 ^ fuel * n) → need ≤ 0x4000 * doubleUntil fuel n need) ∧
    ∀ i, need ≤ 0x4000 * (2 ^ i * n) → doubleUntil fuel n need ≤ 2 ^ i * n := by
  induction fuel generalizing n with
  | zero => exact ⟨⟨0, by simp [doubleUntil]⟩, by simp [doubleUntil], fun i _ => Nat.le_mul_of_pos_left n (Nat.two_pow_pos i)⟩
  | succ fuel ih =>
    have hpow : ∀ i, 2 ^ i * (2 * n) = 2 ^ (i + 1) * n := fun i => by rw [Nat.pow_succ, Nat.mul_assoc]
    obtain ⟨⟨j, hj⟩, hsuff, hleast⟩ := ih (2 * n)
    unfold doubleUntil
    split
    next hneed => exact ⟨⟨0, by simp⟩, fun _ => hneed, fun i _ => Nat.le_mul_of_pos_left n (Nat.two_pow_pos i)⟩
    next hneed =>
      refine ⟨⟨j + 1, hj.trans (hpow j)⟩, fun h => hsuff (by rwa [hpow]), fun i hi => ?_⟩
      cases i with
      | zero => exact absurd (by simpa using hi) hneed
      | succ i => rw [← hpow] at hi ⊢; exact hleast i hi

/-- The bank count is the least power of two, at least 2, that holds the file (R342). -/
theorem romBanksFor_spec (length : Nat) :
    (∃ k, romBanksFor length = 2 ^ (k + 1)) ∧ length ≤ 0x4000 * romBanksFor length ∧
    ∀ k, length ≤ 0x4000 * 2 ^ (k + 1) → romBanksFor length ≤ 2 ^ (k + 1) := by
  obtain ⟨⟨j, hj⟩, hsuff, hleast⟩ := doubleUntil_spec length 2 length
  have hfuel : length < 2 ^ length := Nat.lt_two_pow_self
  refine ⟨⟨j, ?_⟩, hsuff (by omega), fun k hk => ?_⟩
  · rw [romBanksFor, hj, Nat.pow_succ]
  · rw [Nat.pow_succ] at hk ⊢
    exact hleast k hk

/-! ### The outcomes of the load -/

theorem ramSizeOf_eq (code : Byte) : ramSizeOf code = [0, 0x800, 0x2000, 0x8000, 0x20000, 0x10000][code.toNat]? := by
  revert code
  exact forall_byte (by decide +kernel)

theorem ramSizeOf_legal {code : Byte} {size : Nat} (h : ramSizeOf code = some size) :
    size ∈ [0, 0x800, 0x2000, 0x8000, 0x10000, 0x20000] := by
  have hlegal : ∀ x ∈ [0, 0x800, 0x2000, 0x8000, 0x20000, 0x10000], x ∈ [0, 0x800, 0x2000, 0x8000, 0x10000, 0x20000] := by
    decide
  rw [ramSizeOf_eq] at h
  exact hlegal size (List.mem_of_getElem? h)

section
variable {bytes : List Byte}

theorem loadCartridge_short (h : bytes.length < 0x0150) :
    loadCartridge (some bytes) = .error (.romSize bytes.length) := by
  simp [loadCartridge, h]

/-- The sum the header of a file has to store. -/
def fileSum (bytes : List Byte) : Byte := headerChecksum (Memory.ofBytes 0 bytes)

theorem loadCartridge_badSum (h : 0x0150 ≤ bytes.length) (hsum : fileSum bytes ≠ bytes.getD 0x014D 0x00) :
    loadCartridge (some bytes) = .error (.headerChecksum (fileSum bytes) (bytes.getD 0x014D 0x00)) := by
  rw [← Memory.read_ofBytes] at hsum ⊢
  simp only [loadCartridge, if_neg (Nat.not_lt.mpr h), romImage_eq]
  exact if_pos hsum

theorem loadCartridge_badCode (h : 0x0150 ≤ bytes.length) (hsum : fileSum bytes = bytes.getD 0x014D 0x00)
    (hcode : ramSizeOf (bytes.getD 0x0149 0x00) = none) :
    loadCartridge (some bytes) = .error (.ramSizeCode (bytes.getD 0x0149 0x00)) := by
  rw [← Memory.read_ofBytes] at hsum hcode ⊢
  simp only [loadCartridge, if_neg (Nat.not_lt.mpr h), romImage_eq, hcode]
  exact if_neg (not_not_intro hsum)

theorem loadCartridge_ok (h : 0x0150 ≤ bytes.length) (hsum : fileSum bytes = bytes.getD 0x014D 0x00) {size : Nat}
    (hcode : ramSizeOf (bytes.getD 0x0149 0x00) = some size) :
    loadCartridge (some bytes) = .ok ⟨Memory.ofBytes 0 bytes, romBanksFor bytes.length, size, []⟩ := by
  rw [← Memory.read_ofBytes] at hsum hcode
  simp only [loadCartridge, if_neg (Nat.not_lt.mpr h), romImage_eq, hcode]
  exact if_neg (not_not_intro hsum)

end

/-- A cartridge comes only from a file that can be read, is long enough, has its checksum and a known RAM size. -/
theorem loadCartridge_eq_ok {file : Option (List Byte)} {cart : Cartridge} (h : loadCartridge file = .ok cart) :
    ∃ (bytes : List Byte) (code : Byte) (size : Nat), ramSizeOf code = some size ∧
      cart = ⟨Memory.ofBytes 0 bytes, romBanksFor bytes.length, size, []⟩ := by
  cases file with
  | none => exact nomatch h
  | some bytes =>
    rcases Nat.lt_or_ge bytes.length 0x0150 with hshort | hlong
    · exact nomatch (loadCartridge_short hshort).symm.trans h
    · by_cases hsum : fileSum bytes = bytes.getD 0x014D 0x00
      · cases hcode : ramSizeOf (bytes.getD 0x0149 0x00) with
        | none => exact nomatch (loadCartridge_badCode hlong hsum hcode).symm.trans h
        | some size =>
          refine ⟨bytes, _, size, hcode, ?_⟩
          exact (Except.ok.inj ((loadCartridge_ok hlong hsum hcode).symm.trans h)).symm
      · exact nomatch (loadCartridge_badSum hlong hsum).symm.trans h

/-- Settles O9: the image fits its banks, and the save data is cut to the RAM size. -/
theorem loadedMachinesMeetTheInvariant : Obligations.LoadedMachinesMeetTheInvariant := by
  unfold Obligations.LoadedMachinesMeetTheInvariant
  intro file save s hboot
  unfold boot at hboot
  split at hboot
  · exact nomatch hboot
  next cart hload =>
    obtain rfl := Except.ok.inj hboot
    obtain ⟨bytes, code, size, hcode, rfl⟩ := loadCartridge_eq_ok hload
    obtain ⟨hpower, hfits, _⟩ := romBanksFor_spec bytes.length
    have hsizes := And.intro hpower (ramSizeOf_legal hcode)
    have hrom := Memory.wf_ofBytes hfits
    cases save with
    | none => exact powerOn_inv hsizes hrom rfl
    | some data => exact powerOn_inv hsizes hrom (Memory.wf_ofBytes (List.length_take_le size data))

/-- The save data as the cartridge RAM holds it: as many bytes as fit, then zero (R346). -/
theorem loadSave_read (cart : Cartridge) (save : List Byte) (k : Nat) :
    (loadSave cart save).ramInit.read k = if k < min save.length cart.ramSize then save.getD k 0x00 else 0x00 := by
  rw [loadSave, Memory.read_ofBytes]
  split
  next hk => simp [show k < cart.ramSize by omega]
  next hk =>
    have hend : (save.take cart.ramSize).length ≤ k := by rw [List.length_take]; omega
    rw [List.getD_eq_getElem?_getD, List.getElem?_eq_none hend]
    rfl

/-- Settles O10: one lemma for each outcome of the load. -/
theorem loadProcedureFollowsItsSteps : Obligations.LoadProcedureFollowsItsSteps := by
  unfold Obligations.LoadProcedureFollowsItsSteps
  intro sizeOf
  refine ⟨rfl, ?_⟩
  intro bytes rom sum
  refine ⟨loadCartridge_short, loadCartridge_badSum, fun hlong hsum hcode => ?_, fun hlong hsum size hcode => ?_⟩
  · exact loadCartridge_badCode hlong hsum ((ramSizeOf_eq _).trans hcode)
  · obtain ⟨hpower, hfits, hleast⟩ := romBanksFor_spec bytes.length
    exact ⟨_, loadCartridge_ok hlong hsum ((ramSizeOf_eq _).trans hcode), Memory.read_ofBytes bytes, rfl,
      Memory.read_nil, hpower, hfits, hleast, loadSave_read _⟩

/-! ### The header checksum -/

/-- The running difference over any indexes, in closed form. -/
theorem foldl_sub_mod (f : Nat → Byte) (l : List Nat) (x : Byte) :
    ((l.map fun k => (f k).toNat).sum + l.length + (l.foldl (fun x i => x - f i - 1) x).toNat) % 256 = x.toNat := by
  induction l generalizing x with
  | nil => simpa using x.isLt
  | cons i l ih =>
    have hstep : (x - f i - 1).toNat = (x.toNat + 511 - (f i).toNat) % 256 := by
      have := x.isLt
      have := (f i).isLt
      have hone : (1 : Byte).toNat = 1 := rfl
      rw [BitVec.toNat_sub, BitVec.toNat_sub, hone]
      omega
    have htail := ih (x - f i - 1)
    have := x.isLt
    have := (f i).isLt
    rw [List.map_cons, List.sum_cons, List.length_cons, List.foldl_cons]
    omega

/-- Settles O11: the checksum is the running difference from 0 over 25 indexes. -/
theorem headerChecksumIsMinusTheSum : Obligations.HeaderChecksumIsMinusTheSum := by
  unfold Obligations.HeaderChecksumIsMinusTheSum
  intro rom
  exact foldl_sub_mod (fun k => rom.read (0x0134 + k)) (List.range 25) 0

end Sys2Proof.Machine
end

section
/-! The router and the bank controller (20_memory.md R63 to R100). -/

namespace Sys2Proof.Machine

open Sys2Proof.Spec

/-! ### The address map -/

/-- The addresses a region owns, as the address map lists them (R63). -/
def Region.Owns : Region → Word → Prop
  | .romLow, a => within a 0x0000 0x3FFF
  | .romHigh, a => within a 0x4000 0x7FFF
  | .extRam, a => within a 0xA000 0xBFFF
  | .wram, a => within a 0xC000 0xDFFF
  | .echo, a => within a 0xE000 0xFDFF
  | .hram, a => within a 0xFF80 0xFFFE
  | .ifReg, a => a.toNat = 0xFF0F
  | .ieReg, a => a.toNat = 0xFFFF
  | .dmaTrigger, a => a.toNat = 0xFF46
  | .unmapped, a => Spec.unmapped a
  | .device d, a => ownedBy d a ∧ a.toNat ≠ 0xFF46

theorem regionOf_of_owns {r : Region} {a : Word} (h : r.Owns a) : regionOf a = r := by
  have hlt := a.isLt
  cases r with
  | device d =>
    obtain ⟨h, hne⟩ := h
    cases d with
    | video => rcases h with h | h | h <;> unfold within at h <;> simp (disch := omega) only [regionOf, if_neg, if_pos]
    | timer => unfold ownedBy within at h; simp (disch := omega) only [regionOf, if_neg, if_pos]
    | joypad => unfold ownedBy at h; simp (disch := omega) only [regionOf, if_neg, if_pos]
  | unmapped =>
    rcases h with h | h | h | h | h <;> unfold within at h <;> simp (disch := omega) only [regionOf, if_neg, if_pos]
  | _ =>
    simp only [Region.Owns, within] at h
    simp (disch := omega) only [regionOf, if_neg, if_pos]

/-- An access of the address `a` in a region that is one plain byte (R65 to R69). -/
theorem plainByte_of_region {r : Region} {a : Word} {get : State → Byte} {set : State → Byte → State} (h : r.Owns a)
    (hread : ∀ s, regionOf a = r → routerRead a s = (get s, s))
    (hwrite : ∀ s v, regionOf a = r → routerWrite a v s = .next (set s v)) : plainByte a get set :=
  fun s v => ⟨hread s (regionOf_of_owns h), hwrite s v (regionOf_of_owns h)⟩

/-! ### Storage behind the router -/

/-- Settles O13: the router's answer in each of its own regions. -/
theorem routerOwnsItsStorage : Obligations.RouterOwnsItsStorage := by
  unfold Obligations.RouterOwnsItsStorage
  intro addr
  refine ⟨fun h => plainByte_of_region (r := .wram) h ?_ ?_, fun h => plainByte_of_region (r := .echo) h ?_ ?_,
    fun h => plainByte_of_region (r := .hram) h ?_ ?_, fun h => plainByte_of_region (r := .ifReg) h ?_ ?_,
    fun h => plainByte_of_region (r := .ieReg) h ?_ ?_, fun h => plainByte_of_region (r := .unmapped) h ?_ ?_⟩
  all_goals intros; simp only [routerRead, routerWrite, Config.openBus, *]

/-! ### The cartridge -/

theorem extRamOpen_eq_false {s : State} (h : s.ramEnable = false ∨ s.ramSize = 0) : extRamOpen s = false := by
  rcases h with h | h <;> simp [extRamOpen, h]

theorem extRamOpen_eq_true {s : State} (h : s.ramEnable = true) (hsize : s.ramSize ≠ 0) : extRamOpen s = true := by
  simp [extRamOpen, h, hsize]

/-- Settles O14: the router's answer in the two ROM windows and, armed or not, in the external-RAM window. -/
theorem cartridgeWindowsAnswer : Obligations.CartridgeWindowsAnswer := by
  unfold Obligations.CartridgeWindowsAnswer
  intro addr s v bank index
  refine ⟨fun h => ?_, fun h => ?_, fun h hclosed => ?_, fun h henable hsize => ?_⟩
  · have hr : regionOf addr = .romLow := regionOf_of_owns h
    simp only [routerRead, hr]
  · have hr : regionOf addr = .romHigh := regionOf_of_owns h
    simp only [routerRead, hr]
    rfl
  · have hr : regionOf addr = .extRam := regionOf_of_owns h
    simp [routerRead, routerWrite, hr, extRamOpen_eq_false hclosed, Config.ramDisabledRead]
  · have hr : regionOf addr = .extRam := regionOf_of_owns h
    simp [routerRead, routerWrite, hr, extRamOpen_eq_true henable hsize, extRamIndex, effectiveRamBank, index, bank]

/-- The fields of a byte written to the ROM windows, as numbers (R81 to R84). -/
theorem controllerFields (v : Byte) :
    (v.setWidth 4 == Config.ramEnablePattern) = decide (v.toNat % 16 = 0xA) ∧ v.setWidth 5 = BitVec.ofNat 5 v.toNat ∧
      v.setWidth 2 = BitVec.ofNat 2 v.toNat ∧ v.getLsbD 0 = decide (v.toNat % 2 = 1) := by
  revert v
  exact forall_byte (by decide +kernel)

/-- A write below 0x8000 is a write of the bank controller. -/
theorem routerWrite_rom {addr : Word} (h : addr.toNat < 0x8000) (v : Byte) (s : State) :
    routerWrite addr v s = .next (controllerWrite addr v s) := by
  rcases Nat.lt_or_ge addr.toNat 0x4000 with hlow | hhigh
  · have hr : regionOf addr = .romLow := regionOf_of_owns ⟨Nat.zero_le _, by omega⟩
    simp only [routerWrite, hr]
  · have hr : regionOf addr = .romHigh := regionOf_of_owns ⟨hhigh, by omega⟩
    simp only [routerWrite, hr]

/-- Settles O15: the controller's window of the address, and the field of the byte it keeps. -/
theorem romWritesSetControllerRegisters : Obligations.RomWritesSetControllerRegisters := by
  unfold Obligations.RomWritesSetControllerRegisters
  intro addr s v
  obtain ⟨henable, hlo, hhi, hmode⟩ := controllerFields v
  rw [← henable, ← hlo, ← hhi, ← hmode]
  refine ⟨?_, ?_, ?_, ?_⟩
  all_goals
    rintro ⟨hfirst, hlast⟩
    rw [routerWrite_rom (by omega)]
    simp (disch := omega) only [controllerWrite, if_pos, if_neg]

/-- The bank of the machine is the bank number of the rule, masked (R85). -/
theorem effectiveRomBank_eq (s : State) : effectiveRomBank s = bankNumber s &&& (s.romBanks - 1) := by
  unfold effectiveRomBank bankNumber
  cases s.bankMode <;> simp [Nat.mul_comm 32]

/-- Settles O16: the mask by a power of two less one is the remainder; the mask of the RAM size is not above it. -/
theorem effectiveBanksStayInside : Obligations.EffectiveBanksStayInside := by
  unfold Obligations.EffectiveBanksStayInside
  intro s hlegal
  obtain ⟨k, hbanks⟩ := hlegal.1
  have hmod : effectiveRomBank s = bankNumber s % s.romBanks := by
    rw [effectiveRomBank_eq, hbanks, Nat.and_two_pow_sub_one_eq_mod]
  have hpos : 0 < s.romBanks := by rw [hbanks]; exact Nat.two_pow_pos _
  have hlt : effectiveRomBank s < s.romBanks := hmod ▸ Nat.mod_lt _ hpos
  refine ⟨hmod, hlt, fun hmode hhi hlo => ?_, fun hmode hhi hlo => ?_, fun addr hwindow => ?_, fun addr hsize => ?_⟩
  · have htwo : 1 < s.romBanks := by rw [hbanks]; exact Nat.one_lt_two_pow (Nat.succ_ne_zero k)
    rw [hmod, bankNumber, hmode, hhi, hlo]
    exact Nat.mod_eq_of_lt htwo
  · rw [hmod, bankNumber, hmode, hhi, hlo]
    rfl
  · obtain ⟨hfirst, hlast⟩ := hwindow
    unfold romHighIndex
    omega
  · have hle : extRamIndex s addr ≤ s.ramSize - 1 := Nat.and_le_right
    omega

/-! ### Peripheral windows and DMA -/

/-- The DMA register reads as the video window around it does. -/
theorem routerRead_owned {d : Device} {addr : Word} (h : ownedBy d addr) (s : State) :
    routerRead addr s = deviceRead d addr s := by
  by_cases hdma : addr.toNat = 0xFF46
  · have hr : regionOf addr = .dmaTrigger := regionOf_of_owns hdma
    obtain rfl : d = .video := by
      cases d with
      | video => rfl
      | timer => unfold ownedBy within at h; omega
      | joypad => unfold ownedBy at h; omega
    simp only [routerRead, hr]
  · have hr : regionOf addr = .device d := regionOf_of_owns ⟨h, hdma⟩
    simp only [routerRead, hr]

/-- Settles O17: both accesses of an owned address go to its peripheral, but for the write that starts a DMA copy. -/
theorem peripheralAccessesAreForwarded : Obligations.PeripheralAccessesAreForwarded := by
  unfold Obligations.PeripheralAccessesAreForwarded
  intro d addr s v h
  refine ⟨routerRead_owned h s, fun hne => ?_⟩
  have hr : regionOf addr = .device d := regionOf_of_owns ⟨h, fun hdma => hne (BitVec.eq_of_toNat_eq hdma)⟩
  simp only [routerWrite, hr, deviceWrite]

theorem routerWrite_dma (v : Byte) (s : State) :
    routerWrite 0xFF46 v s = if dmaSourceOk v then .next (dmaCopy v s) else .fault (.dmaSource v) := rfl

/-- A read of the core's own storage shows no peripheral traffic and leaves none: its byte does not depend on the
events. -/
theorem routerRead_storage {a : Word} (h : regionOf a = .extRam ∨ regionOf a = .wram) (s : State)
    (ev : List DeviceEvent) :
    routerRead a { s with deviceEvents := ev } = ((routerRead a s).1, { s with deviceEvents := ev }) := by
  rcases h with h | h
  · simp only [routerRead, h]; rfl
  · simp only [routerRead, h]

/-- The first `n` bytes of a DMA copy from the core's own storage (R72). -/
theorem dmaCopy_storage (v : Byte) (s : State) (n : Nat) (hsource : ∀ k < n,
      regionOf (BitVec.ofNat 16 (v.toNat * 256 + k)) = .extRam ∨ regionOf (BitVec.ofNat 16 (v.toNat * 256 + k)) = .wram) :
    (List.range n).foldl (dmaByte v) s = { s with
      deviceEvents := s.deviceEvents ++ (List.range n).map fun k => DeviceEvent.write .video
        (BitVec.ofNat 16 (0xFE00 + k)) (routerRead (BitVec.ofNat 16 (v.toNat * 256 + k)) s).1 } := by
  induction n with
  | zero => simp
  | succ n ih =>
    rw [List.range_succ, List.foldl_append, ih fun k hk => hsource k (by omega), List.foldl_cons, List.foldl_nil, dmaByte,
      routerRead_storage (hsource n (by omega))]
    simp [deviceWrite]

/-- The first `n` bytes of a DMA copy from video RAM: each read is a free byte. -/
theorem dmaCopy_video (v : Byte) (s : State) (n : Nat)
    (hsource : ∀ k < n, ownedBy .video (BitVec.ofNat 16 (v.toNat * 256 + k))) :
    (List.range n).foldl (dmaByte v) s = { s with
      draws := s.draws + n
      deviceEvents := s.deviceEvents ++ (List.range n).flatMap fun k =>
        [DeviceEvent.read .video (BitVec.ofNat 16 (v.toNat * 256 + k)),
          .write .video (BitVec.ofNat 16 (0xFE00 + k)) (Config.deviceByte (s.draws + k))] } := by
  induction n with
  | zero => simp
  | succ n ih =>
    rw [List.range_succ, List.foldl_append, ih fun k hk => hsource k (by omega), List.foldl_cons, List.foldl_nil, dmaByte,
      routerRead_owned (hsource n (by omega))]
    simp [deviceWrite, deviceRead, Nat.add_assoc]

/-- The address of a source byte does not wrap. -/
theorem dmaSource_toNat {v : Byte} {k : Nat} (hk : k < 256) :
    (BitVec.ofNat 16 (v.toNat * 256 + k)).toNat = v.toNat * 256 + k := by
  have := v.isLt
  rw [BitVec.toNat_ofNat]
  omega

/-- Settles O18: the copy from the core's storage and the copy from video RAM, by the page of the source. -/
theorem dmaCopiesOrStops : Obligations.DmaCopiesOrStops := by
  unfold Obligations.DmaCopiesOrStops
  intro v s source target
  have hsource : source = fun k => BitVec.ofNat 16 (v.toNat * 256 + k) :=
    funext fun k => by rw [Nat.mul_comm]
  rw [hsource]
  refine ⟨fun hbad => ?_, fun hfirst hlast => ?_, fun hfirst hlast => ?_⟩
  · rw [routerWrite_dma, if_neg (mt (dmaSourceOk_eq v).mp (not_not_intro hbad))]
  · rw [routerWrite_dma, if_pos ((dmaSourceOk_eq v).mpr (by omega))]
    refine congrArg _ (dmaCopy_storage v s 160 fun k hk => ?_)
    have haddr := dmaSource_toNat (v := v) (k := k) (by omega)
    rcases Nat.lt_or_ge v.toNat 0xC0 with hext | hwram
    · exact .inl (regionOf_of_owns ⟨by omega, by omega⟩)
    · exact .inr (regionOf_of_owns ⟨by omega, by omega⟩)
  · rw [routerWrite_dma, if_pos ((dmaSourceOk_eq v).mpr (by omega))]
    refine congrArg _ (dmaCopy_video v s 160 fun k hk => .inl ?_)
    have haddr := dmaSource_toNat (v := v) (k := k) (by omega)
    exact ⟨by omega, by omega⟩

/-! ### Reads after writes -/

/-- Settles O19: WRAM index `k` lies behind both addresses. -/
theorem echoAndWramAreTheSameBytes : Obligations.EchoAndWramAreTheSameBytes := by
  unfold Obligations.EchoAndWramAreTheSameBytes
  intro s k v hinv hk low high
  have hlow : low.toNat = 0xC000 + k := by rw [BitVec.toNat_ofNat]; omega
  have hhigh : high.toNat = 0xE000 + k := by rw [BitVec.toNat_ofNat]; omega
  have hrlow : regionOf low = .wram := regionOf_of_owns ⟨by omega, by omega⟩
  have hrhigh : regionOf high = .echo := regionOf_of_owns ⟨by omega, by omega⟩
  have hwritten : (s.wram.write k v).read k = v := Memory.read_write_self hinv.wram
  simp [routerRead, routerWrite, hrlow, hrhigh, hlow, hhigh, hwritten]

/-- The cell a completed write goes to holds the byte written. -/
theorem routerWrite_writtenCell {s t : State} {a : Word} {v : Byte} {c : Cell} (hinv : s.Inv)
    (h : routerWrite a v s = .next t) (hc : writtenCell s a = some c) : t.cell c = v := by
  unfold writtenCell cellOf at hc
  unfold routerWrite at h
  cases hr : regionOf a <;> simp only [hr] at h hc
  case romLow | romHigh | dmaTrigger | unmapped | device => exact nomatch hc
  case extRam =>
    cases hopen : extRamOpen s <;> simp only [hopen] at h hc
    · exact nomatch hc
    · cases h; cases hc
      exact Memory.read_write_self hinv.cartRam
  case wram | echo => cases h; cases hc; exact Memory.read_write_self hinv.wram
  case hram => cases h; cases hc; exact Memory.read_write_self hinv.hram
  case ifReg | ieReg => cases h; cases hc; rfl

/-- A read through an address that reaches a cell returns what the cell holds. -/
theorem routerRead_of_cellOf {s : State} {a : Word} {c : Cell} (hc : cellOf s a = some c) :
    (routerRead a s).1 = s.cell c := by
  unfold cellOf at hc
  unfold routerRead
  cases hr : regionOf a <;> simp only [hr] at hc ⊢
  case dmaTrigger | unmapped | device => exact nomatch hc
  case extRam =>
    cases hopen : extRamOpen s <;> simp only [hopen] at hc ⊢
    · exact nomatch hc
    · cases hc; rfl
  all_goals cases hc; rfl

/-- Settles O20: the written cell holds the byte, every other cell is left alone, and reads return their cell. -/
theorem readsReturnTheLatestWrite : Obligations.ReadsReturnTheLatestWrite := by
  unfold Obligations.ReadsReturnTheLatestWrite
  intro s t addr v hinv hwrite
  refine ⟨fun c => ?_, fun other c => routerRead_of_cellOf⟩
  split
  next hc => exact routerWrite_writtenCell hinv hwrite hc
  next hc => exact routerWrite_cell hwrite hc

/-! ### The router update -/

/-- Settles O22: the requests are the free ones under the mask of the bits a peripheral drives. -/
theorem routerUpdateCollectsRequests : Obligations.RouterUpdateCollectsRequests := by
  unfold Obligations.RouterUpdateCollectsRequests
  intro cycles s
  refine ⟨Config.deviceRequests s.updates &&& requestMask, ?_, ?_, ?_, ?_, rfl⟩
  all_goals
    rw [BitVec.getLsbD_and]
    exact Bool.and_false _

end Sys2Proof.Machine
end

section
/-! The word stores and PUSH, the logical operations, decimal adjust, HALT, DI and EI (41_load16.md R181, R184; 42_alu8.md R204
to R212; 44_accumulator_misc.md R230; 46_system.md R250 to R253). -/

namespace Sys2Proof.Machine

open Sys2Proof.Spec

/-! ### Word stores -/

theorem andThen_next_id (r : Result) : andThen r .next = r := by
  cases r <;> rfl

@[simp] theorem fetched_stackPair (i : Instr) (s : State) (q : StackPair) :
    (fetched i s).stackPair q = s.stackPair q := by
  cases q <;> rfl

/-- Settles O27: both forms are one word write, PUSH with SP moved before it and a quantum after it. -/
theorem wordStoresWriteLowByteFirst : Obligations.WordStoresWriteLowByteFirst := by
  unfold Obligations.WordStoresWriteLowByteFirst
  refine ⟨fun i s nn hform => ?_, fun i s q hform => ?_⟩
  all_goals refine storesWord_of_exec (encode_of_opForm hform) ?_
  · calc exec i (fetched i s)
      _ = memWrite16 nn s.sp (fetched i s) := exec_of_opForm hform _
      _ = _ := (andThen_next_id _).symm
  · rw [exec_of_opForm hform, execForm, pushPair_eq, fetched_stackPair]
    rfl

/-! ### Logical operations -/

/-- Settles O31: the operations `and`, `xor` and `or` of the accumulator. -/
theorem andXorOrCombineWithA : Obligations.AndXorOrCombineWithA := by
  unfold Obligations.AndXorOrCombineWithA
  exact ⟨accumulates_all .and, accumulates_all .xor, accumulates_all .or⟩

/-! ### Decimal adjust -/

theorem maskF_decimalAdjust (a : Byte) (n h c : Bool) :
    maskF (decimalAdjust a n h c).2 = (decimalAdjust a n h c).2 := by
  cases n <;> exact maskF_flags _ _ _ _

/-- DAA writes A and F of the adjustment and nothing else. -/
theorem adjustA_eq_record (s : State) :
    adjustA s = .next { s with
      a := (decimalAdjust s.a (flagN s) (flagH s) (flagC s)).1
      f := (decimalAdjust s.a (flagN s) (flagH s) (flagC s)).2 } := by
  rw [adjustA_eq, daa_eq, State.setF, maskF_decimalAdjust]
  rfl

/-- Settles O35: the fetch moves neither A nor F, and the new F is made of flags. -/
theorem daaAdjustsA : Obligations.DaaAdjustsA := by
  unfold Obligations.DaaAdjustsA
  intro s
  exact ⟨rfl, (exec_of_opForm (F := .daa) rfl _).trans (adjustA_eq_record _)⟩

theorem flags_bits (z n h c : Bool) :
    (flags z n h c).getLsbD 6 = n ∧ (flags z n h c).getLsbD 5 = h ∧ (flags z n h c).getLsbD 4 = c := by
  revert z n h c
  decide

/-- What DAA makes of the A and F an operation left. -/
def adjusted (r : Byte × Byte) : Byte × Byte :=
  decimalAdjust r.1 (r.2.getLsbD 6) (r.2.getLsbD 5) (r.2.getLsbD 4)

/-- An accumulator operation with an immediate, then DAA on its result. -/
theorem exec_aluN_then_daa {i : Instr} {o : AluOp} {y : Byte} (hform : i.opForm = .aluN o y) (s : State) :
    ∃ t u, exec i s = .next t ∧ exec .daa t = .next u ∧ u.a = (adjusted (aluResult o s y)).1 ∧
      u.f = (adjusted (aluResult o s y)).2 := by
  refine ⟨accumulate o y s, _, exec_of_opForm hform s,
    (exec_of_opForm (F := .daa) rfl _).trans (adjustA_eq_record _), ?_, ?_⟩
  all_goals
    rw [accumulate_eq]
    rfl

theorem byte_toNat (n : Nat) : (byte n).toNat = n % 256 := BitVec.toNat_ofNat n 8

/-- In a sum of two packed BCD bytes each test of the adjustment, the carry or the digit, finds whether the decimal sum
overflows there. -/
theorem adjusted_addResult {x y : Byte} (hx : isBcd x) (hy : isBcd y) (c : Bool) :
    adjusted (addResult x y c.toNat) =
      let high := decide (0x99 < x.toNat + y.toNat + c.toNat)
      let low := decide (9 < x.toNat % 16 + y.toNat % 16 + c.toNat)
      let r := byte (x.toNat + y.toNat + c.toNat + 0x60 * high.toNat + 0x06 * low.toNat)
      (r, flags (decide (r.toNat = 0)) false false high) := by
  have hc : c.toNat ≤ 1 := Bool.toNat_le c
  unfold isBcd at hx hy
  generalize c.toNat = n at *
  have hhigh : (decide (0xFF < x.toNat + y.toNat + n) || decide (0x99 < (x.toNat + y.toNat + n) % 256)) =
      decide (0x99 < x.toNat + y.toNat + n) := by
    rw [← Bool.decide_or, decide_eq_decide]
    omega
  have hlow : (decide (0xF < x.toNat % 16 + y.toNat % 16 + n) || decide (9 < (x.toNat + y.toNat + n) % 256 % 16)) =
      decide (9 < x.toNat % 16 + y.toNat % 16 + n) := by
    rw [← Bool.decide_or, decide_eq_decide]
    omega
  have hmod : ∀ k l, byte ((x.toNat + y.toNat + n) % 256 + k + l) = byte (x.toNat + y.toNat + n + k + l) := fun k l => by
    apply BitVec.eq_of_toNat_eq
    rw [byte_toNat, byte_toNat]
    omega
  simp only [adjusted, addResult, decimalAdjust, flags_bits, byte_toNat, if_true, hhigh, hlow, hmod]

/-- In a difference the two borrows are the corrections. -/
theorem adjusted_subResult (x y : Byte) (c : Bool) :
    adjusted (subResult x y c.toNat) =
      let high := decide (x.toNat < y.toNat + c.toNat)
      let low := decide (x.toNat % 16 < y.toNat % 16 + c.toNat)
      let r := byte ((512 + x.toNat - y.toNat - c.toNat) % 256 + 256 - 0x60 * high.toNat - 0x06 * low.toNat)
      (r, flags (decide (r.toNat = 0)) true false high) := by
  simp only [adjusted, subResult, decimalAdjust, flags_bits, byte_toNat, reduceCtorEq, if_false]

/-- The adjusted sum is the decimal sum, its carry the hundreds digit. -/
theorem bcdValue_adjusted_addResult {x y : Byte} (hx : isBcd x) (hy : isBcd y) (c : Bool) :
    isBcd (adjusted (addResult x y c.toNat)).1 ∧
      bcdValue (adjusted (addResult x y c.toNat)).1 + 100 * ((adjusted (addResult x y c.toNat)).2.getLsbD 4).toNat =
        bcdValue x + bcdValue y + c.toNat := by
  rw [adjusted_addResult hx hy]
  have hc : c.toNat ≤ 1 := Bool.toNat_le c
  unfold isBcd at hx hy
  simp only [flags_bits, isBcd, bcdValue, byte_toNat]
  generalize c.toNat = n at *
  by_cases hhigh : 0x99 < x.toNat + y.toNat + n <;> by_cases hlow : 9 < x.toNat % 16 + y.toNat % 16 + n <;>
    simp only [hhigh, hlow, decide_true, decide_false, Bool.toNat_true, Bool.toNat_false] <;> omega

/-- The adjusted difference is the decimal difference, its carry the borrow of a hundred. -/
theorem bcdValue_adjusted_subResult {x y : Byte} (hx : isBcd x) (hy : isBcd y) (c : Bool) :
    isBcd (adjusted (subResult x y c.toNat)).1 ∧
      bcdValue (adjusted (subResult x y c.toNat)).1 + bcdValue y + c.toNat =
        bcdValue x + 100 * ((adjusted (subResult x y c.toNat)).2.getLsbD 4).toNat := by
  rw [adjusted_subResult]
  have hc : c.toNat ≤ 1 := Bool.toNat_le c
  unfold isBcd at hx hy
  simp only [flags_bits, isBcd, bcdValue, byte_toNat]
  generalize c.toNat = n at *
  by_cases hhigh : x.toNat < y.toNat + n <;> by_cases hlow : x.toNat % 16 < y.toNat % 16 + n <;>
    simp only [hhigh, hlow, decide_true, decide_false, Bool.toNat_true, Bool.toNat_false] <;> omega

/-- Settles O36: DAA adjusts the sum or difference, with the flags the operation left. -/
theorem daaMakesDecimalArithmetic : Obligations.DaaMakesDecimalArithmetic := by
  unfold Obligations.DaaMakesDecimalArithmetic
  intro s y hx hy
  constructor
  · obtain ⟨t, u, ht, hu, hua, huf⟩ := exec_aluN_then_daa (i := .adcAN y) rfl s
    have hcarry : flagC u = _ := congrArg (BitVec.getLsbD · 4) huf
    refine ⟨t, u, ht, hu, ?_⟩
    rw [hcarry, hua]
    exact bcdValue_adjusted_addResult hx hy (flagC s)
  · obtain ⟨t, u, ht, hu, hua, huf⟩ := exec_aluN_then_daa (i := .sbcAN y) rfl s
    have hcarry : flagC u = _ := congrArg (BitVec.getLsbD · 4) huf
    refine ⟨t, u, ht, hu, ?_⟩
    rw [hcarry, hua]
    exact bcdValue_adjusted_subResult hx hy (flagC s)

/-! ### HALT, DI and EI -/

/-- Settles O40: with `EI_DELAY` = 0 each of the three writes one bit of the fetched state. -/
theorem haltDiAndEi : Obligations.HaltDiAndEi := by
  unfold Obligations.HaltDiAndEi
  intro s
  exact ⟨⟨rfl, rfl⟩, ⟨rfl, rfl⟩, ⟨rfl, rfl⟩⟩

end Sys2Proof.Machine
end

section
/-! What an instruction of each form leaves in the processor: one inversion lemma over the forms (10_state.md R20 to R30; 30_encoding.md
R150; 60_exceptions.md R302; 70_reset_and_hazards.md R351 to R353). -/

namespace Sys2Proof.Machine

open Sys2Proof.Spec

/-! ### Bus traffic -/

/-- `m` is `s` after bus traffic that charged `q` quanta: the processor's own registers have not moved. -/
structure BusRan (q : Nat) (s m : State) : Prop where
  frame : BusWrote s m
  tick : m.tick = s.tick + BitVec.ofNat 8 (4 * q)

theorem BusRan.refl (s : State) : BusRan 0 s s := ⟨.refl s, (BitVec.add_zero _).symm⟩

theorem BusRan.trans {p q : Nat} {s m u : State} (h : BusRan p s m) (k : BusRan q m u) : BusRan (p + q) s u :=
  ⟨h.frame.trans k.frame, by rw [k.tick, h.tick, BitVec.add_assoc, ← BitVec.ofNat_add, ← Nat.mul_add]⟩

theorem busRan_quantum (s : State) : BusRan 1 s (extraQuantum s) :=
  ⟨⟨rfl, rfl, rfl, rfl, rfl, rfl, rfl, rfl, rfl, rfl, rfl, rfl, rfl, rfl, rfl, rfl, rfl, rfl, rfl⟩, rfl⟩

theorem busRan_memRead (a : Word) (s : State) : BusRan 1 s (memRead a s).2 :=
  ⟨by constructor <;> simp, memRead_tick a s⟩

theorem busRan_memWrite {a : Word} {v : Byte} {s t : State} (h : memWrite a v s = .next t) : BusRan 1 s t :=
  ⟨(memWrite_frame h).1, (memWrite_frame h).2⟩

theorem busRan_memWrite16 {a v : Word} {s t : State} (h : memWrite16 a v s = .next t) : BusRan 2 s t := by
  obtain ⟨m, hlo, hhi⟩ := andThen_eq_next.mp h
  exact (busRan_memWrite hlo).trans (busRan_memWrite hhi)

/-- The bus accesses of an operand. -/
def operandQuanta : Operand8 → Nat
  | .reg _ => 0
  | .atHl => 1

theorem busRan_readOperand (x : Operand8) (s : State) : BusRan (operandQuanta x) s (readOperand x s).2 := by
  cases x with
  | reg r => exact .refl s
  | atHl => exact busRan_memRead _ s

/-- The register half of a write of an operand. -/
def putOperand (x : Operand8) (v : Byte) (s : State) : State :=
  match x with
  | .reg r => s.setReg r v
  | .atHl => s

theorem writeOperand_eq_next {x : Operand8} {v : Byte} {s t : State} (h : writeOperand x v s = .next t) :
    ∃ m, BusRan (operandQuanta x) s m ∧ t = putOperand x v m := by
  cases x with
  | reg r => cases h; exact ⟨s, .refl s, rfl⟩
  | atHl => exact ⟨t, busRan_memWrite h, rfl⟩

/-- A read of an operand moves no flag. -/
theorem readOperand_flagC (x : Operand8) (s : State) : (readOperand x s).2.flagC = s.flagC :=
  congrArg (BitVec.getLsbD · 4) (readOperand_f x s)

/-- Read an operand, then write one. -/
theorem modifyOperand_eq_next {x y : Operand8} {v : Byte} {s t : State}
    (h : writeOperand x v (readOperand y s).2 = .next t) :
    ∃ m, BusRan (operandQuanta y + operandQuanta x) s m ∧ t = putOperand x v m := by
  obtain ⟨m, hm, ht⟩ := writeOperand_eq_next h
  exact ⟨m, (busRan_readOperand y s).trans hm, ht⟩

/-- Read an operand, write one, then set F. -/
theorem modifyOperand_setF_eq_next {x y : Operand8} {v f : Byte} {s t : State}
    (h : (andThen (writeOperand x v (readOperand y s).2) fun u => .next (u.setF f)) = .next t) :
    ∃ m, BusRan (operandQuanta y + operandQuanta x) s m ∧ t = (putOperand x v m).setF f := by
  obtain ⟨u, hu, ht⟩ := andThen_eq_next.mp h
  obtain ⟨m, hm, rfl⟩ := modifyOperand_eq_next hu
  cases ht
  exact ⟨m, hm, rfl⟩

theorem push16_eq_next {v : Word} {s t : State} (h : push16 v s = .next t) :
    ∃ m, BusRan 2 s m ∧ t = m.setSP (s.sp - 2) := by
  obtain ⟨hframe, htick⟩ := busRan_memWrite16 h
  refine ⟨t.setSP s.sp, ⟨{ hframe with sp := rfl }, htick⟩, ?_⟩
  calc t
    _ = t.setSP t.sp := rfl
    _ = _ := by rw [hframe.sp]; rfl

theorem pop16_snd (s : State) : ∃ m, BusRan 2 s m ∧ (pop16 s).2 = m.setSP (s.sp + 2) := by
  refine ⟨_, (busRan_memRead s.sp s).trans (busRan_memRead (s.sp + 1) _), ?_⟩
  rw [pop16_eq]
  rfl

/-! ### The register half of each form -/

/-- The quanta a form charges after its fetch: one for each bus access and one for each that only R353 adds. -/
def quantaOf (F : Form) (s : State) : Nat :=
  match F with
  | .ld8 dst src => operandQuanta src + operandQuanta dst
  | .ld8n dst _ => operandQuanta dst
  | .loadA _ | .storeA _ => 1
  | .storeSp _ => 2
  | .push _ | .pop _ | .call _ | .rst _ | .ret | .reti => 3
  | .alu _ src | .bit _ src => operandQuanta src
  | .inc8 x | .dec8 x | .rot _ x | .res _ x | .set _ x => operandQuanta x + operandQuanta x
  | .jp _ | .jpHl | .jr _ => 1
  | .jpCc cc _ | .jrCc cc _ => if s.cond cc then 1 else 0
  | .callCc cc _ | .retCc cc => if s.cond cc then 3 else 0
  | _ => 0

/-- What a form leaves in the processor: `m` is the state after its bus traffic, which began in `s`; `v` and `w` are the byte and
the word that came from the bus. -/
def afterBus (F : Form) (s : State) (v : Byte) (w : Word) (m : State) : State :=
  match F with
  | .ld8 dst _ => putOperand dst v m
  | .ld8n dst n => putOperand dst n m
  | .loadA a => stepHL a (m.setReg .a v)
  | .storeA a => stepHL a m
  | .ld16 p nn => m.setPair p nn
  | .ldSpHl => m.setSP s.hl
  | .ldHlSpE e => (m.setF (addSpE s.sp e).2).setHL (addSpE s.sp e).1
  | .push _ => m.setSP (s.sp - 2)
  | .pop q => (m.setSP (s.sp + 2)).setStackPair q w
  | .alu o _ => accumulate o v m
  | .aluN o n => accumulate o n m
  | .inc8 x => (putOperand x (inc8 v s.flagC).1 m).setF (inc8 v s.flagC).2
  | .dec8 x => (putOperand x (dec8 v s.flagC).1 m).setF (dec8 v s.flagC).2
  | .addHl p => (m.setF (add16 s.hl (s.pair p) s.flagZ).2).setHL (add16 s.hl (s.pair p) s.flagZ).1
  | .inc16 p => m.setPair p (s.pair p + 1)
  | .dec16 p => m.setPair p (s.pair p - 1)
  | .addSpE e => (m.setF (addSpE s.sp e).2).setSP (addSpE s.sp e).1
  | .rotA o => (m.setF (rotateShort o s.a s.flagC).2).setReg .a (rotateShort o s.a s.flagC).1
  | .daa => (m.setF (daa s.a s.flagN s.flagH s.flagC).2).setReg .a (daa s.a s.flagN s.flagH s.flagC).1
  | .cpl => (m.setF (packFlags s.flagZ true true s.flagC)).setReg .a (s.a ^^^ 0xFF)
  | .scf => m.setF (packFlags s.flagZ false false true)
  | .ccf => m.setF (packFlags s.flagZ false false (!s.flagC))
  | .jp nn => m.setPC nn
  | .jpCc cc nn => if s.cond cc then m.setPC nn else m
  | .jpHl => m.setPC s.hl
  | .jr e => m.setPC (s.pc + sext8 e)
  | .jrCc cc e => if s.cond cc then m.setPC (s.pc + sext8 e) else m
  | .call nn => (m.setSP (s.sp - 2)).setPC nn
  | .callCc cc nn => if s.cond cc then (m.setSP (s.sp - 2)).setPC nn else m
  | .rst t => (m.setSP (s.sp - 2)).setPC (BitVec.ofNat 16 (8 * t.val))
  | .ret => (m.setSP (s.sp + 2)).setPC w
  | .retCc cc => if s.cond cc then (m.setSP (s.sp + 2)).setPC w else m
  | .reti => { (m.setSP (s.sp + 2)).setPC w with ime := true }
  | .halt => { m with halted := true }
  | .di => { m with ime := false }
  | .ei => { m with ime := true }
  | .stop => report (.stopExecuted (s.pc - 1)) m
  | .illegal op => report (.illegalOpcode op (s.pc - 1)) m
  | .rot o x => (putOperand x (rotateFlags o v s.flagC).1 m).setF (rotateFlags o v s.flagC).2
  | .bit b _ => m.setF (bitFlags b.val v s.flagC)
  | .res b x => putOperand x (v &&& ~~~(bitMask b.val)) m
  | .set b x => putOperand x (v ||| bitMask b.val) m
  | .storeSp _ | .nop | .cbByte _ => m

/-- Where a form ends in a next state, it is its register half after its bus traffic. -/
def RunsAs (F : Form) (s t : State) : Prop :=
  ∃ m v w, BusRan (quantaOf F s) s m ∧ t = afterBus F s v w m

/-! ### Inversion -/

theorem jumpTo_eq_next {nn : Word} {s t : State} (h : jumpTo nn s = .next t) : ∃ m, BusRan 1 s m ∧ t = m.setPC nn := by
  cases h
  exact ⟨extraQuantum s, busRan_quantum s, rfl⟩

theorem callTo_eq_next {nn : Word} {s t : State} (h : callTo nn s = .next t) :
    ∃ m, BusRan 3 s m ∧ t = (m.setSP (s.sp - 2)).setPC nn := by
  obtain ⟨u, hpush, hjump⟩ := andThen_eq_next.mp h
  obtain ⟨m, hm, rfl⟩ := push16_eq_next hpush
  cases hjump
  exact ⟨extraQuantum m, hm.trans (busRan_quantum m), rfl⟩

theorem returnTo_eq_next {s t : State} (h : returnTo s = .next t) :
    ∃ m, BusRan 3 s m ∧ t = (m.setSP (s.sp + 2)).setPC (pop16 s).1 := by
  obtain ⟨m, hm, hpop⟩ := pop16_snd s
  rw [returnTo_eq, hpop] at h
  cases h
  exact ⟨extraQuantum m, hm.trans (busRan_quantum m), rfl⟩

/-- A conditional form: its operation, or nothing. -/
theorem conditional_eq_next {b : Bool} {r : Result} {q : Nat} {f : State → State} {s t : State}
    (htaken : r = .next t → ∃ m, BusRan q s m ∧ t = f m) (h : (if b then r else .next s) = .next t) :
    ∃ m, BusRan (if b then q else 0) s m ∧ t = if b then f m else m := by
  cases b with
  | true => exact htaken h
  | false => cases h; exact ⟨s, .refl s, rfl⟩

theorem quantum_setStackPair (q : StackPair) (v : Word) (s : State) :
    extraQuantum (s.setStackPair q v) = (extraQuantum s).setStackPair q v := by
  cases q <;> rfl

/-- What each form does to the processor, said once: the frames and the cycle counts below are read off `afterBus` and
`quantaOf`. -/
theorem execForm_runsAs {F : Form} {s t : State} (hne : ∀ op2, F ≠ .cbByte op2) (h : execForm F s = .next t) :
    RunsAs F s t := by
  cases F with
  | cbByte op2 => exact absurd rfl (hne op2)
  | ld8 x y =>
    obtain ⟨m, hm, ht⟩ := modifyOperand_eq_next h
    exact ⟨m, _, 0, hm, ht⟩
  | ld8n x n =>
    obtain ⟨m, hm, ht⟩ := writeOperand_eq_next h
    exact ⟨m, 0, 0, hm, ht⟩
  | loadA a => cases h; exact ⟨_, _, 0, busRan_memRead (addressOf a s) s, rfl⟩
  | storeA a =>
    obtain ⟨m, hm, ht⟩ := andThen_eq_next.mp h
    cases ht
    exact ⟨m, 0, 0, busRan_memWrite hm, rfl⟩
  | storeSp nn => exact ⟨t, 0, 0, busRan_memWrite16 h, rfl⟩
  | push q =>
    obtain ⟨u, hpush, ht⟩ := andThen_eq_next.mp h
    obtain ⟨m, hm, rfl⟩ := push16_eq_next hpush
    cases ht
    exact ⟨extraQuantum m, 0, 0, hm.trans (busRan_quantum m), rfl⟩
  | pop q =>
    obtain ⟨m, hm, hpop⟩ := pop16_snd s
    rw [execForm, popPair_eq, hpop, quantum_setStackPair] at h
    cases h
    exact ⟨extraQuantum m, 0, (pop16 s).1, hm.trans (busRan_quantum m), rfl⟩
  | alu o y => cases h; exact ⟨_, _, 0, busRan_readOperand y s, rfl⟩
  | inc8 x =>
    rw [execForm, inc8Operand_eq, readOperand_flagC] at h
    obtain ⟨m, hm, ht⟩ := modifyOperand_setF_eq_next h
    exact ⟨m, _, 0, hm, ht⟩
  | dec8 x =>
    rw [execForm, dec8Operand_eq, readOperand_flagC] at h
    obtain ⟨m, hm, ht⟩ := modifyOperand_setF_eq_next h
    exact ⟨m, _, 0, hm, ht⟩
  | rot o x =>
    rw [execForm, rotateOperand_eq, readOperand_flagC] at h
    obtain ⟨m, hm, ht⟩ := modifyOperand_setF_eq_next h
    exact ⟨m, _, 0, hm, ht⟩
  | res b x | set b x =>
    obtain ⟨m, hm, ht⟩ := modifyOperand_eq_next h
    exact ⟨m, _, 0, hm, ht⟩
  | bit b x =>
    rw [execForm, testBit_eq, readOperand_flagC] at h
    cases h
    exact ⟨_, _, 0, busRan_readOperand x s, rfl⟩
  | jp nn =>
    obtain ⟨m, hm, ht⟩ := jumpTo_eq_next h
    exact ⟨m, 0, 0, hm, ht⟩
  | jpHl =>
    obtain ⟨m, hm, ht⟩ := jumpTo_eq_next h
    exact ⟨m, 0, 0, hm, ht⟩
  | jr e =>
    obtain ⟨m, hm, ht⟩ := jumpTo_eq_next h
    exact ⟨m, 0, 0, hm, ht⟩
  | call nn | rst n =>
    obtain ⟨m, hm, ht⟩ := callTo_eq_next h
    exact ⟨m, 0, 0, hm, ht⟩
  | ret =>
    obtain ⟨m, hm, ht⟩ := returnTo_eq_next h
    exact ⟨m, 0, _, hm, ht⟩
  | reti =>
    obtain ⟨m, hm, hpop⟩ := pop16_snd s
    rw [execForm, returnInterrupt_eq, hpop] at h
    cases h
    exact ⟨extraQuantum m, 0, (pop16 s).1, hm.trans (busRan_quantum m), rfl⟩
  | jpCc cc nn =>
    obtain ⟨m, hm, ht⟩ := conditional_eq_next jumpTo_eq_next h
    exact ⟨m, 0, 0, hm, ht⟩
  | jrCc cc e =>
    obtain ⟨m, hm, ht⟩ := conditional_eq_next jumpTo_eq_next h
    exact ⟨m, 0, 0, hm, ht⟩
  | callCc cc nn =>
    obtain ⟨m, hm, ht⟩ := conditional_eq_next callTo_eq_next h
    exact ⟨m, 0, 0, hm, ht⟩
  | retCc cc =>
    obtain ⟨m, hm, ht⟩ := conditional_eq_next returnTo_eq_next h
    exact ⟨m, 0, _, hm, ht⟩
  | ld16 | ldSpHl | ldHlSpE | aluN | addHl | inc16 | dec16 | addSpE | nop | rotA | daa | cpl | scf | ccf | halt | stop | di
  | ei | illegal => cases h; exact ⟨s, 0, 0, .refl s, rfl⟩

theorem exec_runsAs {i : Instr} {s t : State} (h : exec i s = .next t) : RunsAs i.opForm s t := by
  rw [exec_eq_opForm] at h
  exact execForm_runsAs (opForm_ne_cbByte i) h

end Sys2Proof.Machine
end

section
/-! The register frame, the flag frame, the reports and the cycle table of all forms (10_state.md R20 to R30; 60_exceptions.md
R302; 70_reset_and_hazards.md R356). -/

namespace Sys2Proof.Machine

open Sys2Proof.Spec

/-! ### Registers -/

/-- Every register outside the list has kept its value. -/
def Moves (l : List RegName) (s t : State) : Prop := ∀ x ∉ l, regValue x t = regValue x s

theorem Moves.refl (l : List RegName) (s : State) : Moves l s s := fun _ _ => rfl

theorem Moves.trans {l : List RegName} {s m t : State} (h : Moves l s m) (k : Moves l m t) : Moves l s t :=
  fun x hx => (k x hx).trans (h x hx)

/-- One update after another moves the registers of both. -/
theorem Moves.append {l l' : List RegName} {s m t : State} (h : Moves l s m) (k : Moves l' m t) : Moves (l ++ l') s t :=
  fun x hx => (k x fun hmem => hx (List.mem_append_right l hmem)).trans
    (h x fun hmem => hx (List.mem_append_left l' hmem))

theorem BusWrote.moves {s m : State} (h : BusWrote s m) : Moves [] s m := by
  intro x _
  cases x <;> simp only [regValue, h.a, h.b, h.c, h.d, h.e, h.h, h.l, h.sp, h.pc, h.ime, h.halted]

theorem moves_setF (l : List RegName) (v : Byte) (s : State) : Moves l s (s.setF v) := by
  intro x _
  cases x <;> rfl

theorem moves_report (l : List RegName) (r : Report) (s : State) : Moves l s (report r s) := by
  intro x _
  cases x <;> rfl

theorem regValue_setReg (x : RegName) (r : Reg8) (v : Byte) (s : State) :
    regValue x (s.setReg r v) = if x ∈ operandRegs (.reg r) then v.toNat else regValue x s := by
  cases r <;> cases x <;> rfl

theorem moves_setReg (r : Reg8) (v : Byte) (s : State) : Moves (operandRegs (.reg r)) s (s.setReg r v) := by
  intro x hx
  rw [regValue_setReg, if_neg hx]

theorem moves_setSP (v : Word) (s : State) : Moves [.sp] s (s.setSP v) := by
  intro x hx
  cases x with
  | sp => exact absurd List.mem_cons_self hx
  | _ => rfl

theorem moves_setPC (v : Word) (s : State) : Moves [.pc] s (s.setPC v) := by
  intro x hx
  cases x with
  | pc => exact absurd List.mem_cons_self hx
  | _ => rfl

theorem moves_ime (b : Bool) (s : State) : Moves [.ime] s { s with ime := b } := by
  intro x hx
  cases x with
  | ime => exact absurd List.mem_cons_self hx
  | _ => rfl

theorem moves_halted (b : Bool) (s : State) : Moves [.halted] s { s with halted := b } := by
  intro x hx
  cases x with
  | halted => exact absurd List.mem_cons_self hx
  | _ => rfl

theorem moves_putOperand (x : Operand8) (v : Byte) (s : State) : Moves (operandRegs x) s (putOperand x v s) := by
  cases x with
  | reg r => exact moves_setReg r v s
  | atHl => exact .refl _ s

/-- A write of a pair is a write of its two registers. -/
theorem moves_setPair (p : Pair) (v : Word) (s : State) : Moves (pairRegs p) s (s.setPair p v) := by
  cases p with
  | bc => exact (moves_setReg .b (hiByte v) s).append (moves_setReg .c (loByte v) _)
  | de => exact (moves_setReg .d (hiByte v) s).append (moves_setReg .e (loByte v) _)
  | hl => exact (moves_setReg .h (hiByte v) s).append (moves_setReg .l (loByte v) _)
  | sp => exact moves_setSP v s

theorem moves_setStackPair (q : StackPair) (v : Word) (s : State) : Moves (stackPairRegs q) s (s.setStackPair q v) := by
  cases q with
  | bc => exact moves_setPair .bc v s
  | de => exact moves_setPair .de v s
  | hl => exact moves_setPair .hl v s
  | af => exact (moves_setF _ (loByte v) s).trans (moves_setReg .a (hiByte v) _)

theorem moves_stepHL (a : AddrMode) (s : State) : Moves (steppedRegs a) s (stepHL a s) := by
  cases a with
  | hlInc | hlDec => exact moves_setPair .hl _ s
  | _ => exact .refl _ s

theorem moves_accumulate (o : AluOp) (v : Byte) (s : State) :
    Moves (if o = .cp then [] else [.a]) s (accumulate o v s) := by
  cases o with
  | cp => exact moves_setF _ _ s
  | _ => exact (moves_setF _ _ s).trans (moves_setReg .a _ _)

/-- PC and SP, as the calls and the returns move them. -/
theorem moves_setSP_setPC (sp pc : Word) (s : State) : Moves [.pc, .sp] s ((s.setSP sp).setPC pc) :=
  (moves_setPC pc s).append (moves_setSP sp _)

theorem Moves.ite {l : List RegName} {s t : State} (h : Moves l s t) (b : Bool) : Moves l s (if b then t else s) := by
  cases b
  · exact .refl l s
  · exact h

theorem afterBus_moves (F : Form) (s : State) (v : Byte) (w : Word) (m : State) :
    Moves (writtenRegs F) m (afterBus F s v w m) := by
  cases F with
  | ld8 x y => exact moves_putOperand x v m
  | ld8n x n => exact moves_putOperand x n m
  | loadA a => exact (moves_setReg .a v m).append (moves_stepHL a _)
  | storeA a => exact moves_stepHL a m
  | ld16 p nn => exact moves_setPair p nn m
  | inc16 p | dec16 p => exact moves_setPair p _ m
  | ldSpHl | push => exact moves_setSP _ m
  | ldHlSpE | addHl => exact (moves_setF _ _ m).trans (moves_setPair .hl _ _)
  | addSpE => exact (moves_setF _ _ m).trans (moves_setSP _ _)
  | pop q => exact (moves_setSP _ m).append (moves_setStackPair q w _)
  | alu o y => exact moves_accumulate o v m
  | aluN o n => exact moves_accumulate o n m
  | inc8 x | dec8 x | rot o x => exact (moves_putOperand x _ m).trans (moves_setF _ _ _)
  | res b x | set b x => exact moves_putOperand x _ m
  | rotA | daa | cpl => exact (moves_setF _ _ m).trans (moves_setReg .a _ _)
  | scf | ccf | bit => exact moves_setF _ _ m
  | jp | jpHl | jr => exact moves_setPC _ m
  | jpCc cc | jrCc cc => exact (moves_setPC _ m).ite (s.cond cc)
  | call | rst | ret => exact moves_setSP_setPC _ _ m
  | callCc cc | retCc cc => exact (moves_setSP_setPC _ _ m).ite (s.cond cc)
  | reti => exact (moves_setSP_setPC _ _ m).append (moves_ime true _)
  | halt => exact moves_halted true m
  | di | ei => exact moves_ime _ m
  | stop | illegal => exact moves_report _ _ m
  | storeSp | nop | cbByte => exact .refl _ m

/-- Settles O45: bus traffic moves no register, and the register half moves those of the list. -/
theorem registerFrame : Obligations.RegisterFrame := by
  unfold Obligations.RegisterFrame
  intro i s t x hexec hx
  obtain ⟨m, v, w, hm, rfl⟩ := exec_runsAs hexec
  rw [afterBus_moves i.opForm s v w m x hx, hm.frame.moves x List.not_mem_nil]

/-! ### Flags -/

/-- F before and after obeys the letters of the flags column, and its low nibble stays 0. -/
def FlagsObey (r : FlagRule × FlagRule × FlagRule × FlagRule) (before after : Byte) : Prop :=
  obeys r.1 (before.getLsbD 7) (after.getLsbD 7) ∧ obeys r.2.1 (before.getLsbD 6) (after.getLsbD 6) ∧
    obeys r.2.2.1 (before.getLsbD 5) (after.getLsbD 5) ∧ obeys r.2.2.2 (before.getLsbD 4) (after.getLsbD 4) ∧
    (before &&& 0x0F = 0 → after &&& 0x0F = 0)

theorem flagsObey_kept (f : Byte) : FlagsObey (.kept, .kept, .kept, .kept) f f := ⟨rfl, rfl, rfl, rfl, id⟩

/-- A write of the four flags obeys the letters if each flag does. -/
theorem flagsObey_packFlags {r : FlagRule × FlagRule × FlagRule × FlagRule} {before : Byte} {z n h c : Bool}
    (hz : obeys r.1 (before.getLsbD 7) z) (hn : obeys r.2.1 (before.getLsbD 6) n)
    (hh : obeys r.2.2.1 (before.getLsbD 5) h) (hc : obeys r.2.2.2 (before.getLsbD 4) c) :
    FlagsObey r before (maskF (packFlags z n h c)) := by
  obtain ⟨bz, bn, bh, bc, low⟩ := packFlags_bits z n h c
  rw [maskF_packFlags]
  exact ⟨bz.symm ▸ hz, bn.symm ▸ hn, bh.symm ▸ hh, bc.symm ▸ hc, fun _ => low⟩

theorem maskF_lowNibble (v : Byte) : maskF v &&& 0x0F = 0 := by
  rw [maskF, BitVec.and_assoc]
  exact BitVec.and_zero

@[simp] theorem putOperand_f (x : Operand8) (v : Byte) (s : State) : (putOperand x v s).f = s.f := by
  cases x with
  | reg r => exact State.setReg_f r v s
  | atHl => rfl

@[simp] theorem stepHL_f (a : AddrMode) (s : State) : (stepHL a s).f = s.f := by
  cases a <;> rfl

/-- The eight accumulator operations, whose letters are those of their immediate form. -/
theorem flagsObey_accumulate (o : AluOp) (v n before : Byte) (s : State) :
    FlagsObey (flagRules (.aluN o n)) before (accumulate o v s).f := by
  cases o with
  | add | adc => exact flagsObey_packFlags trivial rfl trivial trivial
  | sub | sbc | cp => exact flagsObey_packFlags trivial rfl trivial trivial
  | and | xor | or => exact flagsObey_packFlags trivial rfl rfl rfl

theorem flagRules_alu (o : AluOp) (y : Operand8) (n : Byte) : flagRules (.alu o y) = flagRules (.aluN o n) := by
  cases o <;> rfl

/-- The extended rotates; of them SWAP alone clears C. -/
theorem flagsObey_rotateFlags (o : RotOp) (x : Operand8) (v before : Byte) (c : Bool) :
    FlagsObey (flagRules (.rot o x)) before (maskF (rotateFlags o v c).2) := by
  cases o with
  | swap => exact flagsObey_packFlags trivial rfl rfl rfl
  | _ => exact flagsObey_packFlags trivial rfl rfl trivial

theorem flagsObey_daa (a before : Byte) (h c : Bool) :
    FlagsObey (flagRules .daa) before (maskF (daa a (before.getLsbD 6) h c).2) := by
  unfold daa
  split
  · exact flagsObey_packFlags trivial rfl rfl trivial
  · exact flagsObey_packFlags trivial rfl rfl trivial

/-- The word popped into AF sets every flag, and the write of F masks its low nibble. -/
theorem flagsObey_setStackPair (q : StackPair) (v : Word) (s : State) :
    FlagsObey (flagRules (.pop q)) s.f (s.setStackPair q v).f := by
  cases q with
  | af => exact ⟨trivial, trivial, trivial, trivial, fun _ => maskF_lowNibble _⟩
  | _ => exact flagsObey_kept s.f

/-- The register half of every form obeys the flags column, F being the same before and after the bus traffic. -/
theorem afterBus_flagsObey (F : Form) (s : State) (v : Byte) (w : Word) (m : State) (hf : m.f = s.f) :
    FlagsObey (flagRules F) s.f (afterBus F s v w m).f := by
  cases F with
  | alu o y =>
    rw [flagRules_alu o y 0]
    exact flagsObey_accumulate o v 0 s.f m
  | aluN o n => exact flagsObey_accumulate o n n s.f m
  | inc8 | dec8 => exact flagsObey_packFlags trivial rfl trivial rfl
  | addHl => exact flagsObey_packFlags rfl rfl trivial trivial
  | bit => exact flagsObey_packFlags trivial rfl rfl rfl
  | cpl | scf => exact flagsObey_packFlags rfl rfl rfl rfl
  | ccf => exact flagsObey_packFlags rfl rfl rfl trivial
  | addSpE | ldHlSpE => exact flagsObey_packFlags rfl rfl trivial trivial
  | rotA o => exact flagsObey_packFlags rfl rfl rfl trivial
  | daa => exact flagsObey_daa s.a s.f s.flagH s.flagC
  | rot o x => exact flagsObey_rotateFlags o x v s.f s.flagC
  | pop q =>
    rw [← hf]
    exact flagsObey_setStackPair q w (m.setSP (s.sp + 2))
  | ld8 x | ld8n x | res b x | set b x =>
    rw [afterBus, putOperand_f, hf]
    exact flagsObey_kept s.f
  | loadA a | storeA a =>
    rw [afterBus, stepHL_f]
    exact hf ▸ flagsObey_kept m.f
  | ld16 p | inc16 p | dec16 p =>
    rw [afterBus, State.setPair_f, hf]
    exact flagsObey_kept s.f
  | jpCc cc | jrCc cc | callCc cc | retCc cc =>
    rw [afterBus]
    split
    · exact hf ▸ flagsObey_kept m.f
    · exact hf ▸ flagsObey_kept m.f
  | _ => exact hf ▸ flagsObey_kept m.f

/-- Settles O46: bus traffic leaves F alone, and the register half obeys the column. -/
theorem flagFrame : Obligations.FlagFrame := by
  unfold Obligations.FlagFrame
  intro i s t hexec
  obtain ⟨m, v, w, hm, rfl⟩ := exec_runsAs hexec
  exact afterBus_flagsObey i.opForm s v w m hm.frame.f

/-! ### Primary and extended forms -/

/-- The forms of the extended opcode space (R144). -/
def Form.isExtended : Form → Bool
  | .rot _ _ | .bit _ _ | .res _ _ | .set _ _ => true
  | _ => false

theorem extendedForm_isExtended (op2 : Byte) : Form.isExtended (extendedForm op2) = true := by
  unfold extendedForm
  dsimp only
  split
  · rfl
  · split
    · rfl
    · split <;> rfl

/-- A primary form is not one the prefix row stands for. -/
theorem form_of_opForm {i : Instr} {F : Form} (h : i.opForm = F) (hprimary : Form.isExtended F = false) : i.form = F := by
  unfold Instr.opForm at h
  split at h
  next op2 _ =>
    rw [decodeExtended_form] at h
    rw [← h, extendedForm_isExtended] at hprimary
    exact nomatch hprimary
  next => exact h

/-! ### Reports and cycles -/

/-- The register half of a form charges nothing and makes the reports of the form. -/
theorem afterBus_outputs (F : Form) (s : State) (v : Byte) (w : Word) (m : State) :
    (afterBus F s v w m).tick = m.tick ∧ (afterBus F s v w m).reports = m.reports ++ reportsOf F s := by
  cases F with
  | ld8 x | ld8n x | inc8 x | dec8 x | rot _ x | res _ x | set _ x => cases x <;> simp [afterBus, putOperand, reportsOf]
  | loadA a | storeA a => cases a <;> simp [afterBus, stepHL, reportsOf]
  | alu o | aluN o => cases o <;> simp [afterBus, accumulate, reportsOf]
  | ld16 | inc16 | dec16 => simp [afterBus, reportsOf]
  | pop => simp [afterBus, reportsOf]
  | jpCc | jrCc | callCc | retCc =>
    rw [afterBus]
    split <;> exact ⟨rfl, (List.append_nil _).symm⟩
  | stop | illegal => exact ⟨rfl, rfl⟩
  | _ => exact ⟨rfl, (List.append_nil _).symm⟩

/-- Eleven constructors have the form of an unassigned opcode. -/
theorem illegal_of_form_eq {i : Instr} {op : Byte} (h : i.form = .illegal op) :
    op.toNat ∈ [0xD3, 0xDB, 0xDD, 0xE3, 0xE4, 0xEB, 0xEC, 0xED, 0xF4, 0xFC, 0xFD] := by
  cases i <;> cases h <;> decide

/-- A report of an instruction of one byte carries the address the byte was fetched from. -/
theorem report_fetched {i : Instr} {op : Byte} (henc : encode i = [op]) (r : Word → Report) (s : State) :
    report (r ((fetched i s).pc - 1)) (fetched i s) = { s with
      reports := s.reports ++ [r s.pc], pc := s.pc + 1, tick := s.tick + 4 } := by
  have hpc : (fetched i s).pc - 1 = s.pc := by
    rw [fetched_pc henc]
    exact BitVec.add_sub_cancel _ _
  rw [hpc, fetched_eq henc]
  rfl

/-- Settles O41: both report the byte before the fetched PC; the reports of every other form are none. -/
theorem stopAndIllegalOpcodesReport : Obligations.StopAndIllegalOpcodesReport := by
  unfold Obligations.StopAndIllegalOpcodesReport
  refine ⟨fun s => ⟨rfl, ?_⟩, fun i s op hform => ?_, fun i s t hexec => ?_⟩
  · exact (exec_of_opForm (F := .stop) rfl _).trans (congrArg _ (report_fetched rfl .stopExecuted s))
  · have henc : encode i = [op] := encode_of_opForm hform
    exact ⟨illegal_of_form_eq (form_of_opForm hform rfl), henc,
      (exec_of_opForm hform _).trans (congrArg _ (report_fetched henc (.illegalOpcode op) s))⟩
  · obtain ⟨m, v, w, hm, rfl⟩ := exec_runsAs hexec
    rw [(afterBus_outputs i.opForm s v w m).2, hm.frame.reports]

/-- An instruction charges the quanta of its form. -/
theorem exec_tick {i : Instr} {s t : State} (h : exec i s = .next t) :
    t.tick = s.tick + BitVec.ofNat 8 (4 * quantaOf i.opForm s) := by
  obtain ⟨m, v, w, hm, rfl⟩ := exec_runsAs h
  rw [(afterBus_outputs i.opForm s v w m).1, hm.tick]

/-- HALT stands where the opcode map would have the load of (HL) from (HL). -/
theorem opForm_ne_ld8_atHl_atHl (i : Instr) : i.opForm ≠ .ld8 .atHl .atHl := by
  intro h
  have hform := form_of_opForm h rfl
  cases i <;> cases hform

/-- The cycle table is one quantum for each byte of the instruction and each quantum after its fetch (R351 to R353). -/
theorem cyclesOf_eq (F : Form) (s : State) (hld : F ≠ .ld8 .atHl .atHl) (hcb : ∀ op2, F ≠ .cbByte op2) :
    cyclesOf F s = 4 * ((formBytes F).length + quantaOf F s) := by
  cases F with
  | cbByte op2 => exact absurd rfl (hcb op2)
  | ld8 x y =>
    cases x with
    | reg r => cases y <;> rfl
    | atHl =>
      cases y with
      | reg r => rfl
      | atHl => exact absurd rfl hld
  | ld8n x | alu _ x | inc8 x | dec8 x | rot _ x | bit _ x | res _ x | set _ x => cases x <;> rfl
  | loadA a | storeA a => cases a <;> rfl
  | jpCc cc =>
    show (if s.cond cc then 16 else 12) = 4 * (3 + if s.cond cc then 1 else 0)
    split <;> rfl
  | jrCc cc =>
    show (if s.cond cc then 12 else 8) = 4 * (2 + if s.cond cc then 1 else 0)
    split <;> rfl
  | callCc cc =>
    show (if s.cond cc then 24 else 12) = 4 * (3 + if s.cond cc then 3 else 0)
    split <;> rfl
  | retCc cc =>
    show (if s.cond cc then 16 else 4) = 4 * (1 + if s.cond cc then 3 else 0)
    split <;> rfl
  | _ => rfl

theorem quantaOf_fetched (F : Form) (i : Instr) (s : State) : quantaOf F (fetched i s) = quantaOf F s := by
  cases F with
  | jpCc cc | jrCc cc => exact congrArg (fun b : Bool => if b then 1 else 0) (fetched_cond i s cc)
  | callCc cc | retCc cc => exact congrArg (fun b : Bool => if b then 3 else 0) (fetched_cond i s cc)
  | _ => rfl

/-- The fetch and the instruction together charge the cycles of the table. -/
theorem exec_fetched_tick {i : Instr} {s t : State} (h : exec i (fetched i s) = .next t) :
    t.tick = s.tick + BitVec.ofNat 8 (cyclesOf i.opForm s) := by
  rw [exec_tick h, quantaOf_fetched, fetched_tick rfl, BitVec.add_assoc, ← BitVec.ofNat_add, ← Nat.mul_add,
    encode_eq_opForm, cyclesOf_eq _ _ (opForm_ne_ld8_atHl_atHl i) (opForm_ne_cbByte i)]

end Sys2Proof.Machine
end

section
/-! `tick` is charged and never read: every operation commutes with a charge made before it (10_state.md R38). -/

namespace Sys2Proof.Machine

open Sys2Proof.Spec

/-- The next state of a run, changed. -/
def mapNext (f : State → State) : Result → Result
  | .next s => .next (f s)
  | .fault x => .fault x
  | .refused x => .refused x

/-- An operation does the same after a charge, which it passes on. -/
def IgnoresTick (op : State → Result) : Prop := ∀ d s, op (addTick d s) = mapNext (addTick d) (op s)

/-! ### Composition -/

theorem mapNext_andThen {d : Byte} {k : State → Result} (hk : ∀ s, k (addTick d s) = mapNext (addTick d) (k s))
    (r : Result) : andThen (mapNext (addTick d) r) k = mapNext (addTick d) (andThen r k) := by
  cases r with
  | next s => exact hk s
  | fault | refused => rfl

theorem IgnoresTick.andThen {op k : State → Result} (h : IgnoresTick op) (hk : IgnoresTick k) :
    IgnoresTick fun s => andThen (op s) k := by
  intro d s
  dsimp only
  rw [h d s, mapNext_andThen (hk d)]

theorem ignoresTick_next {f : State → State} (h : ∀ d s, f (addTick d s) = addTick d (f s)) :
    IgnoresTick fun s => .next (f s) :=
  fun d s => congrArg _ (h d s)

/-- A conditional instruction: the condition reads flags alone. -/
theorem IgnoresTick.ite {op : State → Result} (h : IgnoresTick op) (cc : Cond) :
    IgnoresTick fun s => if s.cond cc then op s else .next s := by
  intro d s
  have hcond : (addTick d s).cond cc = s.cond cc := by cases cc <;> rfl
  dsimp only
  rw [hcond]
  split
  · exact h d s
  · rfl

/-! ### Registers -/

theorem addTick_comm (d q : Byte) (s : State) : addTick q (addTick d s) = addTick d (addTick q s) := by
  have htick : s.tick + d + q = s.tick + q + d := by rw [BitVec.add_assoc, BitVec.add_comm d q, ← BitVec.add_assoc]
  exact congrArg (fun t => { s with tick := t }) htick

@[simp] theorem setReg_addTick (r : Reg8) (v d : Byte) (s : State) :
    (addTick d s).setReg r v = addTick d (s.setReg r v) := by
  cases r <;> rfl

@[simp] theorem setPair_addTick (p : Pair) (v : Word) (d : Byte) (s : State) :
    (addTick d s).setPair p v = addTick d (s.setPair p v) := by
  cases p <;> rfl

@[simp] theorem setStackPair_addTick (q : StackPair) (v : Word) (d : Byte) (s : State) :
    (addTick d s).setStackPair q v = addTick d (s.setStackPair q v) := by
  cases q <;> rfl

@[simp] theorem pair_addTick (p : Pair) (d : Byte) (s : State) : (addTick d s).pair p = s.pair p := by
  cases p <;> rfl

@[simp] theorem stackPair_addTick (q : StackPair) (d : Byte) (s : State) : (addTick d s).stackPair q = s.stackPair q := by
  cases q <;> rfl

@[simp] theorem reg_addTick (r : Reg8) (d : Byte) (s : State) : (addTick d s).reg r = s.reg r := by
  cases r <;> rfl

@[simp] theorem stepHL_addTick (a : AddrMode) (d : Byte) (s : State) : stepHL a (addTick d s) = addTick d (stepHL a s) := by
  cases a <;> rfl

@[simp] theorem addressOf_addTick (a : AddrMode) (d : Byte) (s : State) : addressOf a (addTick d s) = addressOf a s := by
  cases a <;> rfl

@[simp] theorem accumulate_addTick (o : AluOp) (v d : Byte) (s : State) :
    accumulate o v (addTick d s) = addTick d (accumulate o v s) := by
  cases o <;> rfl

/-! ### Bus accesses -/

theorem routerRead_addTick (a : Word) (d : Byte) (s : State) :
    routerRead a (addTick d s) = ((routerRead a s).1, addTick d (routerRead a s).2) := by
  unfold routerRead
  cases regionOf a <;> rfl

theorem memRead_addTick (a : Word) (d : Byte) (s : State) :
    memRead a (addTick d s) = ((memRead a s).1, addTick d (memRead a s).2) := by
  rw [memRead, addTick_comm, routerRead_addTick, memRead]

theorem readOperand_addTick (x : Operand8) (d : Byte) (s : State) :
    readOperand x (addTick d s) = ((readOperand x s).1, addTick d (readOperand x s).2) := by
  cases x with
  | reg r => rw [readOperand, reg_addTick, readOperand]
  | atHl => exact memRead_addTick s.hl d s

theorem pop16_addTick (d : Byte) (s : State) : pop16 (addTick d s) = ((pop16 s).1, addTick d (pop16 s).2) := by
  simp only [pop16_eq, addTick_sp, memRead_addTick]
  rfl

theorem dmaCopy_addTick (v d : Byte) (s : State) : dmaCopy v (addTick d s) = addTick d (dmaCopy v s) := by
  unfold dmaCopy
  generalize List.range Config.dmaLen = l
  induction l generalizing s with
  | nil => rfl
  | cons i l ih =>
    have hbyte : dmaByte v (addTick d s) i = addTick d (dmaByte v s i) := by
      rw [dmaByte, routerRead_addTick]
      rfl
    rw [List.foldl_cons, hbyte, ih, List.foldl_cons]

theorem controllerWrite_addTick (a : Word) (v d : Byte) (s : State) :
    controllerWrite a v (addTick d s) = addTick d (controllerWrite a v s) := by
  unfold controllerWrite
  (repeat' split) <;> rfl

theorem routerWrite_ignoresTick (a : Word) (v : Byte) : IgnoresTick (routerWrite a v) := by
  intro d s
  unfold routerWrite
  cases regionOf a with
  | romLow | romHigh => exact congrArg _ (controllerWrite_addTick a v d s)
  | dmaTrigger =>
    dsimp only
    split
    · exact congrArg _ (dmaCopy_addTick v d s)
    · rfl
  | extRam =>
    have hopen : extRamOpen (addTick d s) = extRamOpen s := rfl
    dsimp only
    rw [hopen]
    split <;> rfl
  | _ => rfl

theorem memWrite_ignoresTick (a : Word) (v : Byte) : IgnoresTick (memWrite a v) := by
  intro d s
  rw [memWrite, addTick_comm, routerWrite_ignoresTick, memWrite]

theorem memWrite16_ignoresTick (a v : Word) : IgnoresTick (memWrite16 a v) :=
  (memWrite_ignoresTick a (loByte v)).andThen (memWrite_ignoresTick (a + 1) (hiByte v))

theorem writeOperand_ignoresTick (x : Operand8) (v : Byte) : IgnoresTick (writeOperand x v) := by
  intro d s
  cases x with
  | reg r => exact congrArg _ (setReg_addTick r v d s)
  | atHl => exact memWrite_ignoresTick s.hl v d s

theorem push16_ignoresTick (v : Word) : IgnoresTick (push16 v) :=
  fun d s => memWrite16_ignoresTick (s.sp - 2) v d (s.setSP (s.sp - 2))

/-! ### Instructions -/

/-- Read an operand, then go on with its byte. -/
theorem ignoresTick_readOperand (x : Operand8) {k : Byte → State → Result} (hk : ∀ v, IgnoresTick (k v)) :
    IgnoresTick fun s => k (readOperand x s).1 (readOperand x s).2 := by
  intro d s
  dsimp only
  rw [readOperand_addTick]
  exact hk _ d _

/-- Write an operand back changed by `f`, then set F; `f` reads the carry alone of the state. -/
theorem ignoresTick_rewrite (x : Operand8) (f : Bool → Byte × Byte) :
    IgnoresTick fun s => andThen (writeOperand x (f s.flagC).1 s) fun t => .next (t.setF (f s.flagC).2) := by
  intro d s
  have hset : IgnoresTick fun t => .next (t.setF (f s.flagC).2) := ignoresTick_next fun _ _ => rfl
  exact (writeOperand_ignoresTick x (f s.flagC).1).andThen hset d s

theorem jumpTo_ignoresTick (nn : Word) : IgnoresTick (jumpTo nn) :=
  ignoresTick_next fun d s => addTick_comm d _ (s.setPC nn)

theorem callTo_ignoresTick (nn : Word) : IgnoresTick (callTo nn) :=
  fun d s => ((push16_ignoresTick s.pc).andThen (jumpTo_ignoresTick nn)) d s

theorem returnTo_ignoresTick : IgnoresTick returnTo := by
  intro d s
  rw [returnTo_eq, pop16_addTick]
  exact jumpTo_ignoresTick (pop16 s).1 d (pop16 s).2

theorem execForm_ignoresTick (F : Form) (hne : ∀ op2, F ≠ .cbByte op2) : IgnoresTick (execForm F) := by
  cases F with
  | cbByte op2 => exact absurd rfl (hne op2)
  | ld8 x y => exact ignoresTick_readOperand y (writeOperand_ignoresTick x)
  | ld8n x n => exact writeOperand_ignoresTick x n
  | loadA a =>
    intro d s
    rw [execForm, loadA_eq, addressOf_addTick, memRead_addTick, setReg_addTick, stepHL_addTick]
    rfl
  | storeA a =>
    intro d s
    rw [execForm, storeA_eq, addressOf_addTick]
    exact ((memWrite_ignoresTick _ s.a).andThen (ignoresTick_next (stepHL_addTick a))) d s
  | ld16 p nn => exact ignoresTick_next (setPair_addTick p nn)
  | inc16 p | dec16 p => exact ignoresTick_next fun d s => by rw [pair_addTick, setPair_addTick]
  | addHl p => exact ignoresTick_next fun d s => by rw [pair_addTick]; rfl
  | storeSp nn => exact fun d s => memWrite16_ignoresTick nn s.sp d s
  | push q =>
    intro d s
    rw [execForm, pushPair_eq, stackPair_addTick]
    exact ((push16_ignoresTick _).andThen (ignoresTick_next fun d s => addTick_comm d _ s)) d s
  | pop q =>
    intro d s
    rw [execForm, popPair_eq, pop16_addTick, setStackPair_addTick]
    exact congrArg _ (addTick_comm d _ _)
  | alu o y => exact ignoresTick_readOperand y fun v => ignoresTick_next (accumulate_addTick o v)
  | aluN o n => exact ignoresTick_next (accumulate_addTick o n)
  | inc8 x => exact ignoresTick_readOperand x fun v => ignoresTick_rewrite x (inc8 v)
  | dec8 x => exact ignoresTick_readOperand x fun v => ignoresTick_rewrite x (dec8 v)
  | rot o x => exact ignoresTick_readOperand x fun v => ignoresTick_rewrite x (rotateFlags o v)
  | bit b x =>
    exact ignoresTick_readOperand x fun v =>
      ignoresTick_next (f := fun s => s.setF (bitFlags b.val v s.flagC)) fun _ _ => rfl
  | res b x => exact ignoresTick_readOperand x fun v => writeOperand_ignoresTick x (v &&& ~~~(bitMask b.val))
  | set b x => exact ignoresTick_readOperand x fun v => writeOperand_ignoresTick x (v ||| bitMask b.val)
  | jp nn => exact jumpTo_ignoresTick nn
  | jpHl => exact fun d s => jumpTo_ignoresTick s.hl d s
  | jr e => exact fun d s => jumpTo_ignoresTick (s.pc + sext8 e) d s
  | jpCc cc nn => exact (jumpTo_ignoresTick nn).ite cc
  | jrCc cc e => exact IgnoresTick.ite (fun d s => jumpTo_ignoresTick (s.pc + sext8 e) d s) cc
  | call nn => exact callTo_ignoresTick nn
  | rst t => exact callTo_ignoresTick _
  | callCc cc nn => exact (callTo_ignoresTick nn).ite cc
  | ret => exact returnTo_ignoresTick
  | retCc cc => exact returnTo_ignoresTick.ite cc
  | reti =>
    intro d s
    rw [execForm, returnInterrupt_eq, pop16_addTick]
    exact congrArg _ (addTick_comm d _ { (pop16 s).2 with pc := (pop16 s).1, ime := true })
  | _ => exact fun _ _ => rfl

/-- Settles O57: another value of `tick` is a charge made before the instruction. -/
theorem noInstructionReadsTick : Obligations.NoInstructionReadsTick := by
  unfold Obligations.NoInstructionReadsTick
  intro i s k
  have hcharge : { s with tick := k } = addTick (k - s.tick) s := by
    rw [addTick, BitVec.add_comm, BitVec.sub_add_cancel]
  rw [hcharge, exec_eq_opForm, execForm_ignoresTick _ (opForm_ne_cbByte i), ← exec_eq_opForm]
  cases exec i s with
  | next t =>
    have htick : t.tick + (k - s.tick) = t.tick - s.tick + k := by
      rw [BitVec.sub_eq_add_neg, BitVec.sub_eq_add_neg, BitVec.add_assoc, BitVec.add_comm (-s.tick)]
    exact congrArg (fun q => Host.Outcome.next { t with tick := q }) htick
  | fault | refused => rfl

end Sys2Proof.Machine
end

section
/-! What an instruction and a step leave of the memory: the byte frames, the ROM and the invariant (20_memory.md R40, R60 to R90;
10_state.md R22, R33 to R37). -/

namespace Sys2Proof.Machine

open Sys2Proof.Spec

/-! ### Forms that store nothing -/

theorem WritesTo.sameBus {s t : State} (h : WritesTo [] s (.next t)) : SameBus s t := by
  cases h with
  | none h => exact h

/-- Settles O47: with no router write the bus side is the same, and so is every byte it shows. -/
theorem nonStoringFormsLeaveMemory : Obligations.NonStoringFormsLeaveMemory := by
  unfold Obligations.NonStoringFormsLeaveMemory
  intro i s t hstores hexec
  have hwrites := exec_writesTo i s
  rw [hstores, hexec] at hwrites
  have h := hwrites.sameBus
  exact ⟨h.wram, h.hram, h.cartRam, h.rom, h.iflag, h.ienable, ⟨h.ramEnable, h.bankLo, h.bankHi, h.bankMode⟩,
    sameBus_busByte h⟩

/-! ### The map of cells -/

/-- The bank controller and the sizes, which alone decide which cell an address reaches. -/
structure SameMap (s t : State) : Prop where
  banks : sameBanks s t
  romBanks : t.romBanks = s.romBanks
  ramSize : t.ramSize = s.ramSize

theorem SameMap.trans {s m t : State} (h : SameMap s m) (k : SameMap m t) : SameMap s t := by
  obtain ⟨⟨h1, h2, h3, h4⟩, h5, h6⟩ := h
  obtain ⟨⟨k1, k2, k3, k4⟩, k5, k6⟩ := k
  exact ⟨⟨k1.trans h1, k2.trans h2, k3.trans h3, k4.trans h4⟩, k5.trans h5, k6.trans h6⟩

theorem SameBus.sameMap {s t : State} (h : SameBus s t) : SameMap s t :=
  ⟨⟨h.ramEnable, h.bankLo, h.bankHi, h.bankMode⟩, h.romBanks, h.ramSize⟩

theorem SameMap.extRamOpen {s t : State} (h : SameMap s t) : extRamOpen t = extRamOpen s := by
  obtain ⟨⟨henable, _, _, _⟩, _, hsize⟩ := h
  rw [Machine.extRamOpen, henable, hsize, Machine.extRamOpen]

theorem SameMap.cellOf {s t : State} (h : SameMap s t) (a : Word) : cellOf t a = cellOf s a := by
  obtain ⟨⟨henable, hlo, hhi, hmode⟩, hbanks, hsize⟩ := h
  unfold Machine.cellOf Machine.extRamOpen extRamIndex romHighIndex effectiveRomBank effectiveRamBank
  simp only [henable, hlo, hhi, hmode, hbanks, hsize]

theorem SameMap.writtenCell {s t : State} (h : SameMap s t) (a : Word) : writtenCell t a = writtenCell s a := by
  rw [Spec.writtenCell, h.cellOf, Spec.writtenCell]

theorem routerWrite_sameMap {a : Word} {v : Byte} {s t : State} (h : routerWrite a v s = .next t)
    (ha : 0x8000 ≤ a.toNat) : SameMap s t := by
  obtain ⟨hbanks, _, hromBanks, hsize⟩ := routerWrite_banks h ha
  exact ⟨hbanks, hromBanks, hsize⟩

/-- Addresses up to the first of video RAM reach no cell that is written. -/
theorem writtenCell_of_le {a : Word} (h : a.toNat ≤ 0x8000) (s : State) : writtenCell s a = none := by
  rcases Nat.lt_trichotomy a.toNat 0x4000 with hlt | heq | hgt
  · have hr : regionOf a = .romLow := regionOf_of_owns ⟨Nat.zero_le _, by omega⟩
    simp only [Spec.writtenCell, Machine.cellOf, hr]
  · have hr : regionOf a = .romHigh := regionOf_of_owns ⟨by omega, by omega⟩
    simp only [Spec.writtenCell, Machine.cellOf, hr]
  · rcases Nat.lt_or_ge a.toNat 0x8000 with hlt | hge
    · have hr : regionOf a = .romHigh := regionOf_of_owns ⟨by omega, by omega⟩
      simp only [Spec.writtenCell, Machine.cellOf, hr]
    · have hr : regionOf a = .device .video := regionOf_of_owns ⟨.inl ⟨by omega, by omega⟩, by omega⟩
      simp only [Spec.writtenCell, Machine.cellOf, hr]

/-- An address that reaches a cell shows its content on the bus. -/
theorem busByte_of_cellOf {s : State} {a : Word} {c : Cell} (hc : cellOf s a = some c) :
    s.busByte a = some (s.cell c) := by
  unfold State.busByte
  rw [hc]
  unfold cellOf at hc
  cases hr : regionOf a <;> simp only [hr] at hc ⊢
  case dmaTrigger | unmapped | device => exact nomatch hc
  case extRam =>
    cases hopen : extRamOpen s <;> simp only [hopen] at hc ⊢
    · exact nomatch hc
    · cases hc; rfl
  all_goals rfl

/-- What an address shows that reaches no cell: its region alone decides. -/
def uncelledByte : Region → Option Byte
  | .unmapped => some Config.openBus
  | .extRam => some Config.ramDisabledRead
  | _ => none

theorem busByte_of_cellOf_eq_none {s : State} {a : Word} (hc : cellOf s a = none) :
    s.busByte a = uncelledByte (regionOf a) := by
  unfold State.busByte
  rw [hc]
  unfold cellOf at hc
  cases hr : regionOf a <;> simp only [hr] at hc ⊢
  case extRam =>
    cases hopen : extRamOpen s <;> simp only [hopen] at hc ⊢
    · rfl
    · exact nomatch hc
  all_goals rfl

/-- An address shows the same byte if the map is the same and the cell it reaches, if any, holds the same. -/
theorem busByte_eq {s t : State} (h : SameMap s t) {a : Word} (hcell : ∀ c, cellOf s a = some c → t.cell c = s.cell c) :
    t.busByte a = s.busByte a := by
  cases hc : cellOf s a with
  | none => rw [busByte_of_cellOf_eq_none hc, busByte_of_cellOf_eq_none ((h.cellOf a).trans hc)]
  | some c => rw [busByte_of_cellOf hc, busByte_of_cellOf ((h.cellOf a).trans hc), hcell c hc]

/-! ### Forms that store -/

/-- A form stores to no address, to one, or to two neighbours. -/
theorem storedTo_cases (F : Form) (s : State) :
    storedTo F s = [] ∨ (∃ a, storedTo F s = [a]) ∨ ∃ a, storedTo F s = [a, a + 1] := by
  have hstack : ∃ a, [s.sp - 2, s.sp - 1] = [a, a + 1] := ⟨s.sp - 2, by rw [sp_sub_two_add_one]⟩
  cases F with
  | ld8 x | ld8n x | inc8 x | dec8 x | rot _ x | res _ x | set _ x =>
    cases x with
    | reg r => exact .inl rfl
    | atHl => exact .inr (.inl ⟨_, rfl⟩)
  | storeA => exact .inr (.inl ⟨_, rfl⟩)
  | storeSp => exact .inr (.inr ⟨_, rfl⟩)
  | push | call | rst => exact .inr (.inr hstack)
  | callCc cc nn =>
    have hstores : storedTo (.callCc cc nn) s = if s.cond cc then [s.sp - 2, s.sp - 1] else [] := rfl
    rw [hstores]
    split
    · exact .inr (.inr hstack)
    · exact .inl rfl
  | _ => exact .inl rfl

/-- The state after one router write, bus traffic before it aside: only the written cell differs. -/
theorem sameBus_routerWrite_cell {a : Word} {v : Byte} {s u m : State} {c : Cell} (hb : SameBus s u)
    (hw : routerWrite a v u = .next m) (hc : writtenCell s a ≠ some c) : m.cell c = s.cell c := by
  rw [routerWrite_cell hw (by rwa [hb.sameMap.writtenCell]), sameBus_cell hb]

/-- After a write at `a` the next address still writes the cell it did: a write that sets a controller register lies below
0x8000, and so the next address reaches no cell that is written. -/
theorem writtenCell_succ {a : Word} {v : Byte} {s m : State} (h : routerWrite a v s = .next m) :
    writtenCell m (a + 1) = writtenCell s (a + 1) := by
  rcases Nat.lt_or_ge a.toNat 0x8000 with hlt | hge
  · have hsucc : (a + 1).toNat ≤ 0x8000 := by
      have hone : (1 : Word).toNat = 1 := rfl
      rw [BitVec.toNat_add, hone]
      omega
    rw [writtenCell_of_le hsucc, writtenCell_of_le hsucc]
  · exact (routerWrite_sameMap h hge).writtenCell _

/-- The cells after the stores of a form. -/
theorem WritesTo.cell {l : List Word} {s t : State} (h : WritesTo l s (.next t))
    (hl : l = [] ∨ (∃ a, l = [a]) ∨ ∃ a, l = [a, a + 1]) {c : Cell} (hc : ∀ a ∈ l, writtenCell s a ≠ some c) :
    t.cell c = s.cell c := by
  rcases hl with rfl | ⟨a, rfl⟩ | ⟨a, rfl⟩
  · exact sameBus_cell h.sameBus c
  · cases h with
    | step hb hw h =>
      rw [sameBus_cell h.sameBus, sameBus_routerWrite_cell hb hw (hc a List.mem_cons_self)]
  · cases h with
    | step hb hw h =>
      cases h with
      | step hb' hw' h =>
        have hnext := hc (a + 1) (List.mem_cons_of_mem a List.mem_cons_self)
        rw [← hb.sameMap.writtenCell, ← writtenCell_succ hw] at hnext
        rw [sameBus_cell h.sameBus, sameBus_routerWrite_cell hb' hw' hnext,
          sameBus_routerWrite_cell hb hw (hc a List.mem_cons_self)]

/-- Stores at or above 0x8000 leave the map alone. -/
theorem WritesTo.sameMap {l : List Word} {s t : State} (h : WritesTo l s (.next t))
    (hl : ∀ a ∈ l, 0x8000 ≤ a.toNat) : SameMap s t := by
  induction l generalizing s with
  | nil => exact h.sameBus.sameMap
  | cons a l ih =>
    cases h with
    | step hb hw h =>
      have hwrite := routerWrite_sameMap hw (hl a List.mem_cons_self)
      exact (hb.sameMap.trans hwrite).trans (ih h fun b hb => hl b (List.mem_cons_of_mem a hb))

/-- Settles O48: only a written cell changes; with the map the same, so does only a byte the bus shows of such a cell. -/
theorem storingFormsChangeOnlyTheirBytes : Obligations.StoringFormsChangeOnlyTheirBytes := by
  unfold Obligations.StoringFormsChangeOnlyTheirBytes
  intro i s t hexec
  have hwrites := exec_writesTo i s
  rw [hexec] at hwrites
  have hcells : ∀ c, (∀ a ∈ storedTo i.opForm s, writtenCell s a ≠ some c) → t.cell c = s.cell c :=
    fun c hc => hwrites.cell (storedTo_cases _ s) hc
  refine ⟨hcells, fun hhigh => ?_⟩
  have hmap := hwrites.sameMap hhigh
  refine ⟨hmap.banks, fun other hother => busByte_eq hmap fun c hc => hcells c fun a ha hwritten => ?_⟩
  rcases hother a ha with hnone | hne
  · exact nomatch hnone.symm.trans hwritten
  · exact hne (hwritten.trans hc.symm)

end Sys2Proof.Machine
end

section
/-! What every step keeps and where it can stop: the ROM, the invariant, the illegal DMA sources (10_state.md R22, R33 to R37;
20_memory.md R72; 60_exceptions.md R300 to R304, R318). -/

namespace Sys2Proof.Machine

open Sys2Proof.Spec

/-! ### The parts of a step -/

/-- A relation that is transitive and holds across each part of a step holds across the step. -/
theorem step_relates {R : State → State → Prop} (htrans : ∀ {s m t}, R s m → R m t → R s t)
    (hbegin : ∀ s, R s (beginStep s)) (hidle : ∀ s, R s (haltedPart s)) (hfetch : ∀ s, R s (fetchInstr s).2)
    (hexec : ∀ {i s t}, exec i s = .next t → R s t) (hcycles : ∀ n s, R s { s with cycles := n })
    (hupdate : ∀ q s, R s (routerUpdate q s)) (hdispatch : ∀ {k s t}, dispatchInterrupt k s = .next t → R s t)
    {s t : State} (h : step s = .next t) : R s t := by
  obtain ⟨u, hpart, hfinish⟩ := andThen_eq_next.mp h
  have hinstr : R (beginStep s) u := by
    rw [instructionPart_eq] at hpart
    split at hpart
    · cases hpart; exact hidle _
    · exact htrans (hfetch _) (hexec hpart)
  have hdevice : R u (deviceDone u) := htrans (hcycles _ u) (hupdate _ _)
  have hrest : R u t := by
    rcases finishStep_cases hfinish with rfl | ⟨_, k, _, w, hw, rfl⟩
    · exact hdevice
    · exact htrans (htrans hdevice (hdispatch hw)) (htrans (hcycles _ w) (hupdate _ _))
  exact htrans (hbegin s) (htrans hinstr hrest)

theorem sameBus_fetch8 (s : State) : SameBus s (fetch8 s).2 :=
  (sameBus_memRead _ _).trans ⟨rfl, rfl, rfl, rfl, rfl, rfl, rfl, rfl, rfl, rfl, rfl, rfl, rfl, rfl⟩

/-- A fetch is one, two or three byte fetches. -/
theorem fetchInstr_snd (s : State) :
    (fetchInstr s).2 = (fetch8 s).2 ∨ (fetchInstr s).2 = (fetch8 (fetch8 s).2).2 ∨
      (fetchInstr s).2 = (fetch8 (fetch8 (fetch8 s).2).2).2 := by
  rcases opcodeLength_cases (fetch8 s).1 with hlen | hlen | hlen
  · exact .inl (by simp only [fetchInstr, hlen])
  · exact .inr (.inl (by simp only [fetchInstr, hlen]))
  · exact .inr (.inr (by simp only [fetchInstr, hlen]))

theorem sameBus_fetchInstr (s : State) : SameBus s (fetchInstr s).2 := by
  rcases fetchInstr_snd s with h | h | h <;> rw [h]
  · exact sameBus_fetch8 _
  · exact (sameBus_fetch8 _).trans (sameBus_fetch8 _)
  · exact ((sameBus_fetch8 _).trans (sameBus_fetch8 _)).trans (sameBus_fetch8 _)

theorem fetchInstr_f (s : State) : (fetchInstr s).2.f = s.f := by
  rcases fetchInstr_snd s with h | h | h <;> rw [h] <;> simp

/-- What holds across bus traffic and router writes holds across a run of router writes. -/
theorem WritesTo.relates {R : State → State → Prop} (htrans : ∀ {s m t}, R s m → R m t → R s t)
    (hbus : ∀ {s t}, SameBus s t → R s t) (hwrite : ∀ {a v s t}, routerWrite a v s = .next t → R s t) {l : List Word}
    {s t : State} (h : WritesTo l s (.next t)) : R s t := by
  generalize hr : Host.Outcome.next t = r at h
  induction h with
  | none h => cases hr; exact hbus h
  | step h hw _ ih => exact htrans (hbus h) (htrans (hwrite hw) (ih hr))
  | stop => cases hr

/-- What holds across the clearing of the interrupt's bits and across router writes holds across the interrupt entry. -/
theorem dispatch_relates {R : State → State → Prop} (htrans : ∀ {s m t}, R s m → R m t → R s t)
    (henter : ∀ (s : State) (iflag : Byte) (sp : Word),
      R s { s with iflag := iflag, ime := false, halted := false, sp := sp })
    (hwrite : ∀ {a v s t}, routerWrite a v s = .next t → R s t) (hpc : ∀ v s, R s (s.setPC v)) {k : Fin 5} {s t : State}
    (h : dispatchInterrupt k s = .next t) : R s t := by
  obtain ⟨m, hlo, hrest⟩ := andThen_eq_next.mp h
  obtain ⟨n, hhi, ht⟩ := andThen_eq_next.mp hrest
  cases ht
  exact htrans (htrans (henter s _ _) (htrans (hwrite hlo) (hwrite hhi))) (hpc _ n)

/-! ### The cartridge -/

/-- The image and the sizes are the same. -/
structure SameCartridge (s t : State) : Prop where
  rom : t.rom = s.rom
  romBanks : t.romBanks = s.romBanks
  ramSize : t.ramSize = s.ramSize

theorem SameCartridge.trans {s m t : State} (h : SameCartridge s m) (k : SameCartridge m t) : SameCartridge s t :=
  ⟨k.rom.trans h.rom, k.romBanks.trans h.romBanks, k.ramSize.trans h.ramSize⟩

theorem SameBus.sameCartridge {s t : State} (h : SameBus s t) : SameCartridge s t := ⟨h.rom, h.romBanks, h.ramSize⟩

theorem routerWrite_sameCartridge {a : Word} {v : Byte} {s t : State} (h : routerWrite a v s = .next t) :
    SameCartridge s t := by
  obtain ⟨hframe, _⟩ := routerWrite_frame h
  exact ⟨hframe.rom, hframe.romBanks, hframe.ramSize⟩

theorem exec_sameCartridge {i : Instr} {s t : State} (h : exec i s = .next t) : SameCartridge s t :=
  (h ▸ exec_writesTo i s).relates (R := SameCartridge) SameCartridge.trans SameBus.sameCartridge routerWrite_sameCartridge

/-- Settles O58: no part of a step writes the image or a size. -/
theorem noStepChangesTheRom : Obligations.NoStepChangesTheRom := by
  unfold Obligations.NoStepChangesTheRom
  intro s t hstep
  have hdispatch {k : Fin 5} {s t : State} (h : dispatchInterrupt k s = .next t) : SameCartridge s t :=
    dispatch_relates (R := SameCartridge) SameCartridge.trans (fun _ _ _ => ⟨rfl, rfl, rfl⟩) routerWrite_sameCartridge
      (fun _ _ => ⟨rfl, rfl, rfl⟩) h
  have hcart : SameCartridge s t := step_relates (R := SameCartridge) SameCartridge.trans (fun _ => ⟨rfl, rfl, rfl⟩)
    (fun _ => ⟨rfl, rfl, rfl⟩) (fun s => (sameBus_fetchInstr s).sameCartridge) exec_sameCartridge (fun _ _ => ⟨rfl, rfl, rfl⟩)
    (fun _ _ => ⟨rfl, rfl, rfl⟩) hdispatch hstep
  exact ⟨hcart.rom, hcart.romBanks, hcart.ramSize⟩

/-! ### The invariant -/

/-- The part of the invariant that speaks of the storage. -/
structure StorageInv (s : State) : Prop where
  sizes : sizesLegal s.romBanks s.ramSize
  wram : s.wram.wf 0x2000 = true
  hram : s.hram.wf 127 = true
  rom : s.rom.wf (0x4000 * s.romBanks) = true
  cartRam : s.cartRam.wf s.ramSize = true

theorem inv_iff {s : State} : s.Inv ↔ s.f &&& 0x0F = 0 ∧ StorageInv s :=
  ⟨fun h => ⟨h.lowNibble, h.sizes, h.wram, h.hram, h.rom, h.cartRam⟩,
    fun ⟨hf, h⟩ => ⟨hf, h.sizes, h.wram, h.hram, h.rom, h.cartRam⟩⟩

/-- The storage and its sizes are the same. -/
structure SameStorage (s t : State) : Prop where
  romBanks : t.romBanks = s.romBanks
  ramSize : t.ramSize = s.ramSize
  wram : t.wram = s.wram
  hram : t.hram = s.hram
  rom : t.rom = s.rom
  cartRam : t.cartRam = s.cartRam

theorem SameBus.sameStorage {s t : State} (h : SameBus s t) : SameStorage s t :=
  ⟨h.romBanks, h.ramSize, h.wram, h.hram, h.rom, h.cartRam⟩

theorem SameStorage.storageInv {s t : State} (h : SameStorage s t) (hs : StorageInv s) : StorageInv t := by
  obtain ⟨hsizes, hwram, hhram, hrom, hcart⟩ := hs
  constructor
  · rwa [h.romBanks, h.ramSize]
  · rwa [h.wram]
  · rwa [h.hram]
  · rwa [h.rom, h.romBanks]
  · rwa [h.cartRam, h.ramSize]

theorem extRamIndex_lt {s : State} (h : extRamOpen s = true) (a : Word) : extRamIndex s a < s.ramSize := by
  have hsize : s.ramSize ≠ 0 := by
    unfold extRamOpen at h
    simpa using (Bool.and_eq_true_iff.mp h).2
  have hle : extRamIndex s a ≤ s.ramSize - 1 := Nat.and_le_right
  omega

/-- A router write stays inside the array it writes. -/
theorem routerWrite_storageInv {a : Word} {v : Byte} {s t : State} (h : routerWrite a v s = .next t) (hs : StorageInv s) :
    StorageInv t := by
  obtain ⟨hsizes, hwram, hhram, hrom, hcart⟩ := hs
  unfold routerWrite at h
  cases hr : regionOf a <;> simp only [hr] at h <;> have hrange := regionRange_of_eq hr
  case romLow | romHigh =>
    cases h
    unfold controllerWrite
    (repeat' split) <;> exact ⟨hsizes, hwram, hhram, hrom, hcart⟩
  case extRam =>
    cases h
    split
    next hopen => exact ⟨hsizes, hwram, hhram, hrom, Memory.wf_write hcart (extRamIndex_lt hopen a)⟩
    next => exact ⟨hsizes, hwram, hhram, hrom, hcart⟩
  case wram =>
    cases h
    obtain ⟨_, hlast⟩ := hrange
    exact ⟨hsizes, Memory.wf_write hwram (by omega), hhram, hrom, hcart⟩
  case echo =>
    cases h
    obtain ⟨_, hlast⟩ := hrange
    exact ⟨hsizes, Memory.wf_write hwram (by omega), hhram, hrom, hcart⟩
  case hram =>
    cases h
    obtain ⟨_, hlast⟩ := hrange
    exact ⟨hsizes, hwram, Memory.wf_write hhram (by omega), hrom, hcart⟩
  case dmaTrigger =>
    split at h
    next =>
      obtain ⟨n, ev, hcopy⟩ := dmaCopy_eq v s
      rw [hcopy] at h
      cases h
      exact ⟨hsizes, hwram, hhram, hrom, hcart⟩
    next => exact nomatch h
  all_goals cases h; exact ⟨hsizes, hwram, hhram, hrom, hcart⟩

/-- `t` meets the invariant if `s` does. -/
def KeepsInv (s t : State) : Prop := s.Inv → t.Inv

theorem KeepsInv.trans {s m t : State} (h : KeepsInv s m) (k : KeepsInv m t) : KeepsInv s t := fun hs => k (h hs)

theorem SameStorage.keepsInv {s t : State} (h : SameStorage s t) (hf : t.f = s.f) : KeepsInv s t := fun hs =>
  have ⟨hlow, hstorage⟩ := inv_iff.mp hs
  inv_iff.mpr ⟨hf ▸ hlow, h.storageInv hstorage⟩

theorem routerWrite_keepsInv {a : Word} {v : Byte} {s t : State} (h : routerWrite a v s = .next t) : KeepsInv s t :=
  fun hs =>
  have ⟨hlow, hstorage⟩ := inv_iff.mp hs
  inv_iff.mpr ⟨(routerWrite_frame h).1.f ▸ hlow, routerWrite_storageInv h hstorage⟩

/-- An instruction keeps the storage by its router writes and the low nibble of F by the flag frame. -/
theorem exec_keepsInv {i : Instr} {s t : State} (h : exec i s = .next t) : KeepsInv s t := by
  intro hs
  obtain ⟨hlow, hstorage⟩ := inv_iff.mp hs
  obtain ⟨_, _, _, _, hnibble⟩ := flagFrame i s t h
  have hkept : StorageInv s → StorageInv t := (h ▸ exec_writesTo i s).relates (R := fun s t => StorageInv s → StorageInv t)
    (fun h k hs => k (h hs)) (fun hb => hb.sameStorage.storageInv) routerWrite_storageInv
  exact inv_iff.mpr ⟨hnibble hlow, hkept hstorage⟩

theorem dispatch_keepsInv {k : Fin 5} {s t : State} (h : dispatchInterrupt k s = .next t) : KeepsInv s t :=
  dispatch_relates (R := KeepsInv) KeepsInv.trans
    (fun _ _ _ => SameStorage.keepsInv ⟨rfl, rfl, rfl, rfl, rfl, rfl⟩ rfl) routerWrite_keepsInv
    (fun _ _ => SameStorage.keepsInv ⟨rfl, rfl, rfl, rfl, rfl, rfl⟩ rfl) h

/-- Settles O59: every part of a step keeps the storage in its arrays and the low nibble of F at 0. -/
theorem stepKeepsTheInvariant : Obligations.StepKeepsTheInvariant := by
  unfold Obligations.StepKeepsTheInvariant
  intro s t hinv hstep
  have hkept : KeepsInv s t := step_relates (R := KeepsInv) KeepsInv.trans
    (hbegin := fun _ => SameStorage.keepsInv ⟨rfl, rfl, rfl, rfl, rfl, rfl⟩ rfl)
    (hidle := fun _ => SameStorage.keepsInv ⟨rfl, rfl, rfl, rfl, rfl, rfl⟩ rfl)
    (hfetch := fun s => (sameBus_fetchInstr s).sameStorage.keepsInv (fetchInstr_f s))
    (hexec := exec_keepsInv)
    (hcycles := fun _ _ => SameStorage.keepsInv ⟨rfl, rfl, rfl, rfl, rfl, rfl⟩ rfl)
    (hupdate := fun _ _ => SameStorage.keepsInv ⟨rfl, rfl, rfl, rfl, rfl, rfl⟩ rfl)
    (hdispatch := dispatch_keepsInv) hstep
  exact hkept hinv

/-! ### Stops -/

/-- The run does not refuse, and stops on an illegal DMA source only. -/
def StopsOnlyOnDma (r : Result) : Prop :=
  (∀ x, r = .fault x → ∃ v : Byte, x = .dmaSource v ∧ (v.toNat < 0x80 ∨ 0xDF < v.toNat)) ∧ ∀ q, r ≠ .refused q

theorem stopsOnlyOnDma_next (s : State) : StopsOnlyOnDma (.next s) := ⟨nofun, nofun⟩

theorem StopsOnlyOnDma.andThen {r : Result} {k : State → Result} (h : StopsOnlyOnDma r)
    (hk : ∀ s, StopsOnlyOnDma (k s)) : StopsOnlyOnDma (andThen r k) := by
  cases r with
  | next s => exact hk s
  | fault | refused => exact h

/-- A router write stops on an illegal byte for the DMA register (R72). -/
theorem routerWrite_eq_fault_iff {a : Word} {v : Byte} {s : State} {x : Fault} :
    routerWrite a v s = .fault x ↔ badDma a v ∧ x = .dmaSource v := by
  rw [routerWrite_eq_fault, badDma_iff, and_assoc]

theorem routerWrite_stopsOnlyOnDma (a : Word) (v : Byte) (s : State) : StopsOnlyOnDma (routerWrite a v s) := by
  refine ⟨fun x hx => ?_, fun q => routerWrite_ne_refused⟩
  obtain ⟨⟨_, hbad⟩, hfault⟩ := routerWrite_eq_fault_iff.mp hx
  exact ⟨v, hfault, hbad⟩

/-- A run of router writes stops on a write to the DMA register, which is among its addresses. -/
theorem WritesTo.stops {l : List Word} {s : State} {r : Result} (h : WritesTo l s r) :
    StopsOnlyOnDma r ∧ ∀ x, r = .fault x → 0xFF46 ∈ l := by
  induction h with
  | none => exact ⟨stopsOnlyOnDma_next _, nofun⟩
  | step _ _ _ ih => exact ⟨ih.1, fun x hx => List.mem_cons_of_mem _ (ih.2 x hx)⟩
  | stop _ hw =>
    obtain ⟨⟨haddr, _⟩, _⟩ := routerWrite_eq_fault_iff.mp hw
    exact ⟨hw ▸ routerWrite_stopsOnlyOnDma _ _ _, fun _ _ => haddr ▸ List.mem_cons_self⟩

theorem exec_stopsOnlyOnDma (i : Instr) (s : State) : StopsOnlyOnDma (exec i s) := (exec_writesTo i s).stops.1

theorem dispatch_stopsOnlyOnDma (k : Fin 5) (s : State) : StopsOnlyOnDma (dispatchInterrupt k s) :=
  (routerWrite_stopsOnlyOnDma _ _ _).andThen fun _ =>
    (routerWrite_stopsOnlyOnDma _ _ _).andThen fun _ => stopsOnlyOnDma_next _

theorem finishStep_stopsOnlyOnDma (s : State) : StopsOnlyOnDma (finishStep s) := by
  rw [finishStep_eq, interruptPart]
  split
  · split
    · exact (dispatch_stopsOnlyOnDma _ _).andThen fun _ => stopsOnlyOnDma_next _
    · exact stopsOnlyOnDma_next _
  · split <;> exact stopsOnlyOnDma_next _

theorem step_stopsOnlyOnDma (s : State) : StopsOnlyOnDma (step s) := by
  refine StopsOnlyOnDma.andThen ?_ finishStep_stopsOnlyOnDma
  rw [instructionPart_eq]
  split
  · exact stopsOnlyOnDma_next _
  · exact exec_stopsOnlyOnDma _ _

/-- Settles O55: every stop is that of a router write. -/
theorem stepsStopOnlyOnIllegalDmaSources : Obligations.StepsStopOnlyOnIllegalDmaSources := by
  unfold Obligations.StepsStopOnlyOnIllegalDmaSources
  exact ⟨fun s => (step_stopsOnlyOnDma s).1, fun s => (step_stopsOnlyOnDma s).2,
    fun i s => (exec_writesTo i s).stops.2, fun i s => (exec_stopsOnlyOnDma i s).2⟩

end Sys2Proof.Machine
end

section
/-! The step: the fetch of the instruction at PC, the halted state, the interrupt entry, the cycle counts (30_encoding.md R150;
60_exceptions.md R300 to R317; 70_reset_and_hazards.md R351 to R357). -/

namespace Sys2Proof.Machine

open Sys2Proof.Spec

/-! ### The fetch -/

/-- The bytes of a well-formed instruction are as many as its opcode byte asks for, and decode to it. -/
theorem encode_cases {i : Instr} (hi : i.wellFormed = true) :
    (∃ op, opcodeLength op = 1 ∧ encode i = [op] ∧ decode op 0 0 = i) ∨
    (∃ op b1, opcodeLength op = 2 ∧ encode i = [op, b1] ∧ decode op b1 0 = i) ∨
    ∃ op b1 b2, opcodeLength op = 3 ∧ encode i = [op, b1, b2] ∧ decode op b1 b2 = i := by
  have hdecode := encodedInstructionsDecodeBack i [] hi
  rw [List.append_nil] at hdecode
  match hcode : encode i with
  | [] => rw [hcode] at hdecode; exact nomatch hdecode
  | op :: more =>
    rw [hcode] at hdecode
    rcases opcodeLength_cases op with hlen | hlen | hlen
    · obtain ⟨rfl, rfl⟩ : decode op 0 0 = i ∧ more = [] := by simpa [decodeBytes, hlen] using hdecode
      exact .inl ⟨op, hlen, rfl, rfl⟩
    · match more with
      | [] => simp [decodeBytes, hlen] at hdecode
      | b1 :: rest =>
        obtain ⟨rfl, rfl⟩ : decode op b1 0 = i ∧ rest = [] := by simpa [decodeBytes, hlen] using hdecode
        exact .inr (.inl ⟨op, b1, hlen, rfl, rfl⟩)
    · match more with
      | [] | [_] => simp [decodeBytes, hlen] at hdecode
      | b1 :: b2 :: rest =>
        obtain ⟨rfl, rfl⟩ : decode op b1 b2 = i ∧ rest = [] := by simpa [decodeBytes, hlen] using hdecode
        exact .inr (.inr ⟨op, b1, b2, hlen, rfl, rfl⟩)

/-- PC past `n` bytes, each of them charged. -/
def pastBytes (n : Nat) (s : State) : State :=
  { s with pc := s.pc + BitVec.ofNat 16 n, tick := s.tick + BitVec.ofNat 8 (4 * n) }

theorem fetched_eq_pastBytes {i : Instr} {n : Nat} (h : (encode i).length = n) (s : State) :
    fetched i s = pastBytes n s := by
  rw [fetched, h, pastBytes]

theorem pastBytes_zero (s : State) : pastBytes 0 s = s := by
  simp [pastBytes]

/-- A read of a byte the bus shows has no side effect. -/
theorem routerRead_of_busByte {a : Word} {v : Byte} {s : State} (h : s.busByte a = some v) : routerRead a s = (v, s) := by
  unfold State.busByte cellOf at h
  unfold routerRead
  cases hr : regionOf a <;> simp only [hr] at h ⊢
  case device | dmaTrigger => exact nomatch h
  all_goals cases h; rfl

/-- The fetch of the next byte, where the bus shows it. -/
theorem fetch8_pastBytes {n : Nat} {v : Byte} {s : State} (h : s.busByte (s.pc + BitVec.ofNat 16 n) = some v) :
    fetch8 (pastBytes n s) = (v, pastBytes (n + 1) s) := by
  have hread : memRead (pastBytes n s).pc (pastBytes n s) = (v, addTick Config.cycleQuantum (pastBytes n s)) :=
    routerRead_of_busByte h
  have hpc : s.pc + BitVec.ofNat 16 n + 1 = s.pc + BitVec.ofNat 16 (n + 1) := by
    rw [BitVec.add_assoc, BitVec.ofNat_add]
    rfl
  have htick : s.tick + BitVec.ofNat 8 (4 * n) + Config.cycleQuantum = s.tick + BitVec.ofNat 8 (4 * (n + 1)) := by
    rw [BitVec.add_assoc, Nat.mul_add, BitVec.ofNat_add]
    rfl
  rw [fetch8, hread]
  simp only [pastBytes, addTick, State.setPC, hpc, htick]

/-- The fetch of the instruction whose bytes the bus shows at PC. -/
theorem fetchInstr_of_busBytes {i : Instr} {s : State} (hi : i.wellFormed = true)
    (hbytes : ∀ k < (encode i).length, s.busByte (s.pc + BitVec.ofNat 16 k) = (encode i)[k]?) :
    fetchInstr s = (i, fetched i s) := by
  rcases encode_cases hi with ⟨op, hlen, hcode, rfl⟩ | ⟨op, b1, hlen, hcode, rfl⟩ | ⟨op, b1, b2, hlen, hcode, rfl⟩
  all_goals
    rw [hcode] at hbytes
    have hop : fetch8 s = (op, pastBytes 1 s) := by
      simpa [pastBytes_zero] using fetch8_pastBytes (hbytes 0 (Nat.succ_pos _))
    rw [fetched_eq_pastBytes (congrArg List.length hcode)]
  · simp only [fetchInstr, hop, hlen]
    rfl
  · simp only [fetchInstr, hop, hlen, fetch8_pastBytes (hbytes 1 (by simp))]
    rfl
  · simp only [fetchInstr, hop, hlen, fetch8_pastBytes (hbytes 1 (by simp)),
      fetch8_pastBytes (hbytes 2 (by simp))]
    rfl

/-- Settles O49: the fetch reads the bytes of `i` one after another, without side effect. -/
theorem stepRunsTheDecodedInstruction : Obligations.StepRunsTheDecodedInstruction := by
  unfold Obligations.StepRunsTheDecodedInstruction
  intro s i hrunning hi hbytes
  have hfetch : fetchInstr (beginStep s) = (i, fetched i (started s)) := fetchInstr_of_busBytes hi hbytes
  have hnot : ¬(beginStep s).halted = true := by rw [beginStep_halted, hrunning]; exact Bool.false_ne_true
  rw [step, instructionPart_eq, if_neg hnot, executeOne, hfetch]

/-! ### The poll -/

/-- With IME = 0 the rest of the step is the router update alone (R310, R328). -/
theorem finishStep_of_ime_eq_false {s : State} (h : (deviceDone s).ime = false) : finishStep s = .next (deviceDone s) := by
  rw [finishStep_eq, interruptPart, h]
  rfl

/-- So it is with nothing pending. -/
theorem finishStep_of_pending_eq_zero {s : State} (h : pending (deviceDone s) = 0) :
    finishStep s = .next (deviceDone s) := by
  have hsource : pendingSource (deviceDone s) = none := (pendingSourceIsTheLowestBit _).1.mpr h
  rw [finishStep_eq, interruptPart, hsource]
  split
  · rfl
  · rfl

/-- Otherwise the lowest pending source is dispatched, and its cycles are given to the devices (R312, R313). -/
theorem finishStep_of_isLowest {s : State} {k : Fin 5} (hime : (deviceDone s).ime = true)
    (hk : isLowest (pending (deviceDone s)) k) :
    finishStep s = andThen (dispatchInterrupt k (deviceDone s)) fun w =>
      .next (routerUpdate 20 { w with cycles := w.cycles + 20 }) := by
  have hsource : pendingSource (deviceDone s) = some k := ((pendingSourceIsTheLowestBit _).2 k).mpr hk
  rw [finishStep_eq, interruptPart, if_pos hime, hsource]
  rfl

/-- Settles O52: no bit of IME, or no source. -/
theorem nothingIsDispatchedUnlessEnabledAndPending : Obligations.NothingIsDispatchedUnlessEnabledAndPending := by
  unfold Obligations.NothingIsDispatchedUnlessEnabledAndPending
  rintro s (hime | hnone)
  · exact finishStep_of_ime_eq_false hime
  · exact finishStep_of_pending_eq_zero hnone

/-! ### The interrupt entry -/

theorem routerWrite_of_badDma {a : Word} {v : Byte} (h : badDma a v) (s : State) :
    routerWrite a v s = .fault (.dmaSource v) := routerWrite_eq_fault_iff.mpr ⟨h, rfl⟩

theorem exists_routerWrite_of_not_badDma {a : Word} {v : Byte} (h : ¬badDma a v) (s : State) :
    ∃ t, routerWrite a v s = .next t := by
  cases hw : routerWrite a v s with
  | next t => exact ⟨t, rfl⟩
  | fault x => exact absurd (routerWrite_eq_fault_iff.mp hw).1 h
  | refused q => exact absurd hw routerWrite_ne_refused

/-- The state in which the interrupt entry of source `k` pushes PC: its IF bit, IME and halted are cleared, SP is down by
two (R312). -/
def entered (k : Fin 5) (u : State) : State :=
  { u with iflag := u.iflag &&& ~~~(byte (2 ^ k.val)), ime := false, halted := false, sp := u.sp - 2 }

/-- The entry as two router writes, the low byte of PC first (D14), and the jump to the vector. -/
theorem dispatchInterrupt_eq (k : Fin 5) (u : State) :
    dispatchInterrupt k u =
      andThen (routerWrite (u.sp - 2) (loByte u.pc) (entered k u)) fun m =>
      andThen (routerWrite (u.sp - 1) (hiByte u.pc) m) fun t =>
      .next { t with pc := BitVec.ofNat 16 (0x0040 + 8 * k.val) } := by
  have hbit : bitMask k.val = byte (2 ^ k.val) := by revert k; decide
  rw [dispatchInterrupt, hbit, ← sp_sub_two_add_one]
  rfl

/-- Settles O53: the source is the one the search finds, and the entry stops at the first illegal byte it pushes. -/
theorem dispatchEntersTheLowestPendingSource : Obligations.DispatchEntersTheLowestPendingSource := by
  unfold Obligations.DispatchEntersTheLowestPendingSource
  intro s k u low hime hk
  rw [finishStep_of_isLowest hime hk, dispatchInterrupt_eq]
  refine ⟨fun hlo hhi => ?_, fun hlo => ?_, fun hlo hhi => ?_⟩
  · obtain ⟨m, hm⟩ := exists_routerWrite_of_not_badDma hlo low
    obtain ⟨t, ht⟩ := exists_routerWrite_of_not_badDma hhi m
    have hcycles : t.cycles = s.tick.toNat := ((routerWrite_frame hm).1.trans (routerWrite_frame ht).1).cycles
    refine ⟨m, t, hm, ht, ?_⟩
    rw [entered, hm, andThen_next, ht, andThen_next, ← hcycles]
    rfl
  · rw [routerWrite_of_badDma hlo, andThen_fault, andThen_fault]
  · obtain ⟨m, hm⟩ := exists_routerWrite_of_not_badDma hlo low
    rw [entered, hm, andThen_next, routerWrite_of_badDma hhi, andThen_fault, andThen_fault]

/-! ### The halted state -/

/-- A halted step fetches nothing: four idle cycles, then the device and interrupt parts (R354). -/
theorem step_of_halted {s : State} (h : s.halted = true) : step s = finishStep { started s with tick := 4 } := by
  have hhalted : (beginStep s).halted = true := by rw [beginStep_halted, h]
  rw [step, instructionPart_eq, if_pos hhalted]
  rfl

/-- The state after a halted step in which nothing is dispatched. -/
def idled (s : State) : State := deviceDone { started s with tick := 4 }

/-- Settles O50: with IME = 0 each step is the idle one, which moves neither PC, SP, IME nor halted. -/
theorem haltedWithoutImeStaysHalted : Obligations.HaltedWithoutImeStaysHalted := by
  unfold Obligations.HaltedWithoutImeStaysHalted
  refine ⟨fun s => step_of_halted, fun s n hhalted hime => ?_⟩
  induction n generalizing s with
  | zero => exact ⟨s, rfl, hhalted, hime, rfl, rfl⟩
  | succ n ih =>
    have hstep : step s = .next (idled s) := (step_of_halted hhalted).trans (finishStep_of_ime_eq_false hime)
    obtain ⟨t, hsteps, hrest⟩ := ih (idled s) hhalted hime
    refine ⟨t, ?_, hrest⟩
    rw [steps, hstep]
    exact hsteps

/-- The router update only adds requests, so what was pending is pending still. -/
theorem pending_deviceDone_ne_zero {s : State} (h : pending s ≠ 0) : pending (deviceDone s) ≠ 0 := by
  intro hzero
  refine h (BitVec.eq_of_getLsbD_eq fun k _ => ?_)
  have hbit : (pending (deviceDone s)).getLsbD k = false := by rw [hzero]; exact BitVec.getLsbD_zero
  have hiflag : (deviceDone s).iflag = s.iflag ||| (Config.deviceRequests s.updates &&& requestMask) := rfl
  have hienable : (deviceDone s).ienable = s.ienable := rfl
  rw [pending_getLsbD, pendingBit, hiflag, hienable, BitVec.getLsbD_or] at hbit
  rw [pending_getLsbD, pendingBit, BitVec.ofNat_eq_ofNat, BitVec.getLsbD_zero]
  revert hbit
  cases decide (k < 5) <;> cases s.ienable.getLsbD k <;> cases s.iflag.getLsbD k <;> simp

/-- The rest of a step: the router update alone, or the entry of the lowest pending source and its cycles. -/
theorem finishStep_eq_next {s t : State} (h : finishStep s = .next t) :
    (t = deviceDone s ∧ ((deviceDone s).ime = false ∨ pending (deviceDone s) = 0)) ∨
    ((deviceDone s).ime = true ∧ ∃ k w, isLowest (pending (deviceDone s)) k ∧
      dispatchInterrupt k (deviceDone s) = .next w ∧ t = routerUpdate 20 { w with cycles := w.cycles + 20 }) := by
  cases hime : (deviceDone s).ime with
  | false =>
    rw [finishStep_of_ime_eq_false hime] at h
    cases h
    exact .inl ⟨rfl, .inl rfl⟩
  | true =>
    rcases pendingSource_cases (deviceDone s) with ⟨_, hzero⟩ | ⟨k, _, hk⟩
    · rw [finishStep_of_pending_eq_zero hzero] at h
      cases h
      exact .inl ⟨rfl, .inr hzero⟩
    · rw [finishStep_of_isLowest hime hk] at h
      obtain ⟨w, hw, ht⟩ := andThen_eq_next.mp h
      cases ht
      exact .inr ⟨rfl, k, w, hk, hw, rfl⟩

/-- A source in the pending set is enabled. -/
theorem ienable_of_isLowest {s : State} {k : Fin 5} (h : isLowest (pending s) k) : s.ienable.getLsbD k.val = true := by
  have hbit := h.1
  rw [pending_getLsbD_of_lt s k.isLt, pendingBit] at hbit
  exact (Bool.and_eq_true_iff.mp hbit).1

/-- Settles O51: without a dispatch the halted bit is kept, and a dispatch shows in every register it names. -/
theorem onlyADispatchEndsTheHaltedState : Obligations.OnlyADispatchEndsTheHaltedState := by
  unfold Obligations.OnlyADispatchEndsTheHaltedState
  intro s t hhalted hstep
  rw [step_of_halted hhalted] at hstep
  rcases finishStep_eq_next hstep with ⟨rfl, hnone⟩ | ⟨hime, k, w, hk, hw, rfl⟩
  · refine ⟨fun hended => absurd (hhalted.symm.trans hended) Bool.noConfusion, fun hime hpending => ?_⟩
    rcases hnone with hoff | hzero
    · exact absurd (hime.symm.trans hoff) Bool.noConfusion
    · exact absurd hzero (pending_deviceDone_ne_zero hpending)
  · obtain ⟨hended, hoff, _, hsp, hpc, _, hcycles, _⟩ := dispatch_frame hw
    have henabled : s.ienable.getLsbD k.val = true := ienable_of_isLowest (s := deviceDone { started s with tick := 4 }) hk
    refine ⟨fun _ => ⟨hime, hoff, hsp, ?_, k, henabled, hpc⟩, fun _ _ => hended⟩
    calc w.cycles + 20
      _ = 4 + 20 := by rw [hcycles]; rfl
      _ = 24 := rfl

/-! ### Cycles -/

theorem operandQuanta_le (x : Operand8) : operandQuanta x ≤ 1 := by
  cases x with
  | reg r => exact Nat.zero_le 1
  | atHl => exact Nat.le_refl 1

/-- No form charges more than three quanta after its fetch. -/
theorem quantaOf_le (F : Form) (s : State) : quantaOf F s ≤ 3 := by
  have hcond : ∀ (b : Bool) (n : Nat), n ≤ 3 → (if b then n else 0) ≤ 3 := by
    intro b n hn
    split <;> omega
  cases F with
  | ld8 x y => exact Nat.le_trans (Nat.add_le_add (operandQuanta_le y) (operandQuanta_le x)) (by decide)
  | ld8n x | alu _ x | bit _ x => exact Nat.le_trans (operandQuanta_le x) (by decide)
  | inc8 x | dec8 x | rot _ x | res _ x | set _ x =>
    exact Nat.le_trans (Nat.add_le_add (operandQuanta_le x) (operandQuanta_le x)) (by decide)
  | jpCc cc | jrCc cc => exact hcond (s.cond cc) 1 (by decide)
  | callCc cc | retCc cc => exact hcond (s.cond cc) 3 (by decide)
  | loadA | storeA | jp | jpHl | jr => exact (by decide : 1 ≤ 3)
  | storeSp => exact (by decide : 2 ≤ 3)
  | push | pop | call | rst | ret | reti => exact Nat.le_refl 3
  | _ => exact Nat.zero_le 3

/-- The fetch charges one quantum for each byte of the instruction. -/
theorem fetchInstr_tick (s : State) :
    (fetchInstr s).2.tick = s.tick + BitVec.ofNat 8 (4 * opcodeLength (fetch8 s).1) := by
  rcases opcodeLength_cases (fetch8 s).1 with hlen | hlen | hlen
  all_goals
    simp only [fetchInstr, hlen, fetch8_tick, BitVec.add_assoc]
    rfl

/-- The instruction part of a step charges 4 to 24 cycles (R356, R357). -/
theorem instructionPart_tick {s t : State} (h : instructionPart (beginStep s) = .next t) :
    4 ≤ t.tick.toNat ∧ t.tick.toNat ≤ 24 := by
  rw [instructionPart_eq] at h
  split at h
  · cases h
    exact ⟨(by decide : 4 ≤ (4 : Byte).toNat), (by decide : (4 : Byte).toNat ≤ 24)⟩
  · have hquanta := quantaOf_le (fetchInstr (beginStep s)).1.opForm (fetchInstr (beginStep s)).2
    have hlen := opcodeLength_cases (fetch8 (beginStep s)).1
    have hexec : exec (fetchInstr (beginStep s)).1 (fetchInstr (beginStep s)).2 = .next t := h
    have htick := exec_tick hexec
    have hstart : (beginStep s).tick = 0#8 := rfl
    rw [fetchInstr_tick, hstart] at htick
    have hsum : t.tick.toNat = (4 * opcodeLength (fetch8 (beginStep s)).1 +
        4 * quantaOf (fetchInstr (beginStep s)).1.opForm (fetchInstr (beginStep s)).2) % 256 := by
      rw [htick, BitVec.zero_add, ← BitVec.ofNat_add, BitVec.toNat_ofNat]
    omega

/-- Settles O56: the table by bytes and quanta; the device and interrupt parts leave `tick` alone. -/
theorem cyclesFollowTheTable : Obligations.CyclesFollowTheTable := by
  unfold Obligations.CyclesFollowTheTable
  refine ⟨fun i s t => exec_fetched_tick, fun s t hstep => ?_⟩
  obtain ⟨u, hpart, hfinish⟩ := andThen_eq_next.mp hstep
  obtain ⟨hmin, hmax⟩ := instructionPart_tick hpart
  rcases finishStep_eq_next hfinish with ⟨rfl, _⟩ | ⟨_, k, w, _, hw, rfl⟩
  · exact ⟨hmin, hmax, .inl rfl⟩
  · obtain ⟨_, _, _, _, _, htick, hcycles, _⟩ := dispatch_frame hw
    have htick' : w.tick = u.tick := htick
    have hcycles' : w.cycles = u.tick.toNat := hcycles
    show 4 ≤ w.tick.toNat ∧ w.tick.toNat ≤ 24 ∧ (w.cycles + 20 = w.tick.toNat ∨ w.cycles + 20 = w.tick.toNat + 20)
    rw [htick', hcycles']
    exact ⟨hmin, hmax, .inr rfl⟩

end Sys2Proof.Machine
end
